-- ==== Sys2Proof/Word.lean ====
section
/-! DEFINITION. The fixed-width unsigned integers of the spec (00_scope R13): u8, u16, u32 and u64 as bit vectors.
All values are unsigned (R13), so no signed reading is defined. -/

namespace Sys2Proof

/-- u8: one byte on the wire, in a buffer or in a command field (R13). -/
abbrev Byte := BitVec 8

/-- u16: a device register, a CRC, a START or COUNT field (R13). -/
abbrev Half := BitVec 16

/-- u32: a composite measurement or a readback word (R13, R52). -/
abbrev Word := BitVec 32

/-- u64: one command word (R112). -/
abbrev CommandWord := BitVec 64

end Sys2Proof
end

