-- ==== Sys2Proof/Config.lean ====
section
/-! DEFINITION. The implementation parameters of 00_scope R10: those with a FIXED value are constants here, the
OPEN ones are the fields of `Params`. The model is parametric in `Params`: no meaning looks at a particular value. -/

namespace Sys2Proof

/-! ## Parameters with a fixed value (R10) -/

/-- FC_READ_INPUT, the function code of every frame the engine itself builds (R10, R124). -/
def Config.fcReadInput : Byte := 0x04

/-- PROBE_COUNT (R10). -/
def Config.probeCount : Half := 1

/-- POLL_COUNT (R10). -/
def Config.pollCount : Half := 8

/-- CRC_INIT, "all-ones" (R10, R150). -/
def Config.crcInit : Half := 0xFFFF

/-- CRC_POLY (R10, R152): the spec's own decision D8. CRC_XOROUT is 0x0000, so no final step exists (R150, D9). -/
def Config.crcPoly : Half := 0xA001

/-- HDR_LEN: address, function, byte_count (R10). -/
def Config.hdrLen : Nat := 3

/-- EXC_LEN: the length of an exception frame (R10, R122). -/
def Config.excLen : Nat := 5

/-- PROBE_START (R10, D11). -/
def Config.probeStart : Half := 0x0000

/-- POLL_START (R10, D11). -/
def Config.pollStart : Half := 0x0000

/-- MAX_REGS (R10, D12). -/
def Config.maxRegs : Nat := 8

/-- Registers DECODE needs (R190, D22). -/
def Config.recordRegs : Nat := 6

/-! ## Opaque values (R10 to R12)

The engine passes these on and looks into none of them. A tag distinguishes values, nothing more (log 4). -/

/-- One framing variant, an opaque value handed to `T.Configure` (R12, D38). -/
structure Framing where
  tag : Nat
deriving DecidableEq, Repr

/-- LINK_ID, the opaque identifier of the one link (R10, D33). -/
structure LinkId where
  tag : Nat
deriving DecidableEq, Repr

/-- A duration, as a natural in an abstract unit (R11). -/
abbrev Duration := Nat

/-! ## Parameters the model is parametric in (R10, OPEN) -/

/-- The OPEN parameters of R10. They are fixed for a run and no step writes them (R49, R304). -/
structure Params where
  /-- FRAMINGS, in the order given (R231). -/
  framings : List Framing
  /-- DRIVER_MODES, in the order given (R231). -/
  driverModes : List Bool
  /-- ADDRESSES, in the order given (R231). -/
  addresses : List Byte
  /-- LINK_ID. -/
  linkId : LinkId
  /-- WAIT1_ITERS, the budget of phase A (R183). -/
  wait1Iters : Nat
  /-- INTERVAL1. -/
  interval1 : Duration
  /-- WAIT2_ITERS, the budget of phase C (R185). -/
  wait2Iters : Nat
  /-- INTERVAL2. -/
  interval2 : Duration
  /-- PROBE_ITERS, the budget of a probe (R239). -/
  probeIters : Nat
  /-- PROBE_INTERVAL. -/
  probeInterval : Duration
  /-- PROBE_MIN_BYTES, the plausibility threshold (R239). -/
  probeMinBytes : Nat
  /-- POLL_PERIOD (R245). -/
  pollPeriod : Duration
  /-- DISCARD_BEFORE_SEND (R220, R238). -/
  discardBeforeSend : Bool
deriving DecidableEq, Repr

/-- NF (R10). -/
def Params.nf (p : Params) : Nat := p.framings.length

/-- ND (R10). -/
def Params.nd (p : Params) : Nat := p.driverModes.length

/-- NA (R10). -/
def Params.na (p : Params) : Nat := p.addresses.length

/-- N, the size of the candidate space (R10, R233). -/
def Params.size (p : Params) : Nat := p.nf * p.nd * p.na

/-- Example values for the OPEN parameters: those of 95_test_vectors "Conventions", which that file calls example
values and not the spec's. DESIGN CHOICE (log 2): `State.reset` needs some value; no statement rests on one. -/
def Params.vectorDefaults : Params where
  framings := [⟨0⟩]
  driverModes := [false]
  addresses := [0x01]
  linkId := ⟨0⟩
  wait1Iters := 3
  interval1 := 1
  wait2Iters := 3
  interval2 := 2
  probeIters := 2
  probeInterval := 1
  probeMinBytes := 7
  pollPeriod := 1
  discardBeforeSend := true

end Sys2Proof
end

