-- ==== Sys2Proof/Syntax.lean ====
section
/-! DEFINITION. The twelve commands of the engine (30_encoding R114, opcode_table.json), one constructor per row.
A command's used fields are its named operands. The bits it ignores (R113) are kept too, under names that begin with
`ign`, because the whole word is latched in `cur` and readable there (R42, R54); no meaning but that latch reads them. -/

namespace Sys2Proof

/-- One command word with an assigned OP. -/
inductive Instr where
  /-- NOP, OP 0x00 (R210); `ign` is bits [55:0]. -/
  | nop (ign : BitVec 56)
  /-- CRC_INIT, OP 0x01 (R157); `ign` is bits [55:0]. -/
  | crcInit (ign : BitVec 56)
  /-- CRC_BYTE, OP 0x02 (R158); `ign` is bits [55:8]. -/
  | crcByte (ign : BitVec 48) (data : Byte)
  /-- BUILD, OP 0x10 (R171); `ign` is DATA. -/
  | build (addr fc : Byte) (start count : Half) (ign : Byte)
  /-- SEND, OP 0x11 (R220); `ign` is bits [55:0]. -/
  | send (ign : BitVec 56)
  /-- RECEIVE, OP 0x12 (R180); `ignHi` is bits [55:24], `ignLo` is DATA. -/
  | receive (ignHi : BitVec 32) (count : Half) (ignLo : Byte)
  /-- DECODE, OP 0x13 (R190); `ign` is bits [55:0]. -/
  | decode (ign : BitVec 56)
  /-- READ, OP 0x14 (R198); `ignFc` is FC, `ignData` is DATA. -/
  | read (addr ignFc : Byte) (start count : Half) (ignData : Byte)
  /-- LINK_OPEN, OP 0x18 (R212); `ign` is bits [55:0]. -/
  | linkOpen (ign : BitVec 56)
  /-- LINK_CONFIG, OP 0x19 (R214, R116); `ignMid` is bits [47:8], `ignTop` is DATA[7:5], `driver` is DATA[4],
  `framing` is DATA[3:0]. -/
  | linkConfig (addr : Byte) (ignMid : BitVec 40) (ignTop : BitVec 3) (driver : Bool) (framing : BitVec 4)
  /-- LINK_DISCARD, OP 0x1A (R217); `ign` is bits [55:0]. -/
  | linkDiscard (ign : BitVec 56)
  /-- DISC_START, OP 0x20 (R235); `ign` is bits [55:0]. -/
  | discStart (ign : BitVec 56)
deriving DecidableEq, Repr

end Sys2Proof
end

