-- ==== Sys2Proof/WellFormed.lean ====
section
/-! DEFINITION. Well-formedness of what the model is given.

The parameters must meet 70_reset R304 before the rules hold. Instructions need no check: every operand of `Instr` has
its field's exact width, no operand value is reserved (R113, R117), and a word with a reserved OP is no `Instr` (R115).
The operand ranges of R116 and R117 are tests the running command makes, with a refusal as their effect. -/

namespace Sys2Proof

/-- NF fits LINK_CONFIG's 4-bit index: 1 ≤ NF ≤ 16 (R304, D38). -/
abbrev Params.FramingsValid (p : Params) : Prop := 1 ≤ p.nf ∧ p.nf ≤ 16

/-- ND ∈ {1, 2} with distinct elements (R304, D39). -/
abbrev Params.DriverModesValid (p : Params) : Prop := (1 ≤ p.nd ∧ p.nd ≤ 2) ∧ p.driverModes.Nodup

/-- 1 ≤ NA ≤ 256 with distinct elements (R304, D40). -/
abbrev Params.AddressesValid (p : Params) : Prop := (1 ≤ p.na ∧ p.na ≤ 256) ∧ p.addresses.Nodup

/-- The three iteration budgets are at least 1 (R304). -/
abbrev Params.BudgetsValid (p : Params) : Prop := 1 ≤ p.wait1Iters ∧ 1 ≤ p.wait2Iters ∧ 1 ≤ p.probeIters

/-- 1 ≤ PROBE_MIN_BYTES ≤ 255 (R304, D25). -/
abbrev Params.ThresholdValid (p : Params) : Prop := 1 ≤ p.probeMinBytes ∧ p.probeMinBytes ≤ 255

/-- The second wait budget is the longer one (R304, D18). No rule of the engine depends on it (R320). -/
abbrev Params.SecondWaitLonger (p : Params) : Prop := p.wait1Iters * p.interval1 < p.wait2Iters * p.interval2

/-- All the constraints R304 puts on the parameters. -/
abbrev Params.Valid (p : Params) : Prop :=
  p.FramingsValid ∧ p.DriverModesValid ∧ p.AddressesValid ∧ p.BudgetsValid ∧ p.ThresholdValid ∧ p.SecondWaitLonger

end Sys2Proof
end

