-- ==== Sys2Proof/Decode.lean ====
section
/-! DEFINITION. The 64-bit command word (30_encoding R112): its fields, the decoder, the encoder.
The command port takes whole words (R110), so there are no bytes to order and nothing is left over. -/

namespace Sys2Proof

/-! ## The six fields (R112) -/

/-- OP = w[63:56]. -/
def CommandWord.op (w : CommandWord) : Byte := w.extractLsb' 56 8

/-- ADDR = w[55:48]. -/
def CommandWord.addr (w : CommandWord) : Byte := w.extractLsb' 48 8

/-- FC = w[47:40]. -/
def CommandWord.fc (w : CommandWord) : Byte := w.extractLsb' 40 8

/-- START = w[39:24]. -/
def CommandWord.start (w : CommandWord) : Half := w.extractLsb' 24 16

/-- COUNT = w[23:8]. -/
def CommandWord.count (w : CommandWord) : Half := w.extractLsb' 8 16

/-- DATA = w[7:0]. -/
def CommandWord.data (w : CommandWord) : Byte := w.extractLsb' 0 8

/-- LINK_CONFIG's framing index f = DATA[3:0] (R116). -/
def CommandWord.framing (w : CommandWord) : BitVec 4 := w.extractLsb' 0 4

/-- LINK_CONFIG's line-driver enable d = DATA[4] (R116). -/
def CommandWord.driver (w : CommandWord) : Bool := w.getLsbD 4

/-- The word assembled from its six fields: OP·2^56 + ADDR·2^48 + FC·2^40 + START·2^24 + COUNT·2^8 + DATA (R112). -/
def CommandWord.ofFields (op addr fc : Byte) (start count : Half) (data : Byte) : CommandWord :=
  op ++ addr ++ fc ++ start ++ count ++ data

/-! ## The decoder (R114, R115) -/

/-- Why a word is no instruction. -/
inductive DecodeError where
  /-- OP is one of the 244 reserved values (R115). The engine refuses such a word with CMD_REFUSED. -/
  | reservedOp (op : Byte)
deriving DecidableEq, Repr

/-- Select the operation by OP alone (R110, R114); total on every word. -/
def decode (w : CommandWord) : Except DecodeError Instr :=
  match w.op.toNat with
  | 0x00 => .ok (.nop (w.extractLsb' 0 56))
  | 0x01 => .ok (.crcInit (w.extractLsb' 0 56))
  | 0x02 => .ok (.crcByte (w.extractLsb' 8 48) w.data)
  | 0x10 => .ok (.build w.addr w.fc w.start w.count w.data)
  | 0x11 => .ok (.send (w.extractLsb' 0 56))
  | 0x12 => .ok (.receive (w.extractLsb' 24 32) w.count w.data)
  | 0x13 => .ok (.decode (w.extractLsb' 0 56))
  | 0x14 => .ok (.read w.addr w.fc w.start w.count w.data)
  | 0x18 => .ok (.linkOpen (w.extractLsb' 0 56))
  | 0x19 => .ok (.linkConfig w.addr (w.extractLsb' 8 40) (w.extractLsb' 5 3) w.driver w.framing)
  | 0x1A => .ok (.linkDiscard (w.extractLsb' 0 56))
  | 0x20 => .ok (.discStart (w.extractLsb' 0 56))
  | _ => .error (.reservedOp w.op)

/-! ## The encoder (R112, R114, R141) -/

/-- The OP of each command (R114). -/
def Instr.op : Instr → Byte
  | .nop _ => 0x00
  | .crcInit _ => 0x01
  | .crcByte _ _ => 0x02
  | .build _ _ _ _ _ => 0x10
  | .send _ => 0x11
  | .receive _ _ _ => 0x12
  | .decode _ => 0x13
  | .read _ _ _ _ _ => 0x14
  | .linkOpen _ => 0x18
  | .linkConfig _ _ _ _ _ => 0x19
  | .linkDiscard _ => 0x1A
  | .discStart _ => 0x20

/-- Everything below OP: the used fields at their places (R112, R116) and the ignored bits as the term holds them. -/
def Instr.operandBits : Instr → BitVec 56
  | .nop ign => ign
  | .crcInit ign => ign
  | .crcByte ign data => ign ++ data
  | .build addr fc start count ign => addr ++ fc ++ start ++ count ++ ign
  | .send ign => ign
  | .receive ignHi count ignLo => ignHi ++ count ++ ignLo
  | .decode ign => ign
  | .read addr ignFc start count ignData => addr ++ ignFc ++ start ++ count ++ ignData
  | .linkOpen ign => ign
  | .linkConfig addr ignMid ignTop driver framing => addr ++ ignMid ++ ignTop ++ BitVec.ofBool driver ++ framing
  | .linkDiscard ign => ign
  | .discStart ign => ign

/-- The command word of an instruction. -/
def encode (i : Instr) : CommandWord := i.op ++ i.operandBits

/-! ## The host's reading of the opcode table -/

/-- The instruction the decoder reads from `nbits` low bits of `w`, the word's other bits zero. The table's rows have
64 bits, one command word, so its bit numbers are the word's own. -/
def decodeTableWord (nbits w : Nat) : Option Instr :=
  match decode (BitVec.ofNat 64 (w % 2 ^ nbits)) with
  | .ok i => some i
  | .error _ => none

end Sys2Proof
end

