-- ==== Sys2Proof/Machine/Crc16.lean ====
section
/-! DEFINITION. The CRC-16/Modbus function of the CRC unit (40_crc R150 to R153). -/

namespace Sys2Proof.Machine

/-- crc_bit(c): test bit 0, shift right, exclusive-or with CRC_POLY when it was set (R152). -/
def crcBit (c : Half) : Half :=
  if c.getLsbD 0 then (c >>> 1) ^^^ Config.crcPoly else c >>> 1

/-- crc_bit, `n` times (R151 "repeat 8 times"). -/
def crcBits : Nat → Half → Half
  | 0, c => c
  | n + 1, c => crcBits n (crcBit c)

/-- crc_step(c, b): the byte goes into the low byte, then eight bit steps (R151). -/
def crcStep (c : Half) (b : Byte) : Half := crcBits 8 (c ^^^ b.setWidth 16)

/-- The fold of crc_step over a byte sequence, from a given accumulator (R155 streaming). -/
def crcFold (c : Half) (s : List Byte) : Half := s.foldl crcStep c

/-- crc16(s) (R150): from CRC_INIT, with no final step. -/
def crc16 (s : List Byte) : Half := crcFold Config.crcInit s

/-- crc[7:0], the trailer byte at the lower index (R77, R153). -/
def crcLo (c : Half) : Byte := c.setWidth 8

/-- crc[15:8], the trailer byte at the higher index (R77, R153). -/
def crcHi (c : Half) : Byte := (c >>> 8).setWidth 8

/-- The two trailer bytes of a CRC, low byte first (R153). -/
def crcTrailer (c : Half) : List Byte := [crcLo c, crcHi c]

/-- The validity invariant of a frame: its last two bytes are the CRC of all bytes before them, low byte first (R121, R187). -/
def frameValid (f : List Byte) : Bool :=
  decide (2 ≤ f.length) && f.drop (f.length - 2) == crcTrailer (crc16 (f.take (f.length - 2)))

end Sys2Proof.Machine
end

