-- ==== Sys2Proof/Machine/State.lean ====
section
/-! DEFINITION. The state vector of 10_state R31 to R56, its reset values (R60), and the vocabulary it is written in:
control points, modes, result codes, reports, transactions, answers, and the events the outside produces. -/

namespace Sys2Proof.Machine

/-! ## Names for what the spec enumerates -/

/-- The control points of R40, in the order of their codes. -/
inductive Ctl where
  | idle | lOpen | lConf | lDisc | sDisc | sWrite
  | raDelay | raAvail | rbRead | rcDelay | rcAvail | rdRead
  | qOpen | qConf | qSdisc | qWrite | qDelay | qAvail | qFdisc | qExh
  | pDelay | fatal
deriving DecidableEq, Repr

/-- Who runs the shared sites (R41): a command, or the sequencer. Not a privilege (R286). -/
inductive Mode where
  | cmd | seq
deriving DecidableEq, Repr

/-- The result codes of R125. The reserved codes 9 to 14 have no constructor: no rule writes them (U20). -/
inductive ResultCode where
  | ok | linkOpenFailure | noResponse | deviceException | partialFrame | checksumError
  | configurationExhausted | transportFailure | cmdRefused | none
deriving DecidableEq, Repr

/-- Ok or Err, the answer of open, configure and write (R80). -/
inductive Status where
  | ok | err
deriving DecidableEq, Repr

/-! ## Groups of registers -/

/-- ENC (R33, R34). -/
structure Encoder where
  /-- txbuf[0..7] (R33). -/
  txbuf : Vector Byte 8
  /-- tx_valid (R34). -/
  txValid : Bool
deriving DecidableEq, Repr

/-- RXU (R35 to R39). -/
structure Receiver where
  /-- rxbuf[0..20] (R35). -/
  rxbuf : Vector Byte 21
  /-- rx_len (R36). -/
  rxLen : Byte
  /-- rx_want (R37). -/
  rxWant : Byte
  /-- rx_n (R38). -/
  rxN : Byte
  /-- rx_ok (R39). -/
  rxOk : Bool
deriving DecidableEq, Repr

/-- The four raw integers of a Measurement Record (R45, R191). -/
structure Measurement where
  voltage : Half
  current : Half
  power : Word
  energy : Word
deriving DecidableEq, Repr

/-- DEC (R45): m_voltage, m_current, m_power, m_energy and m_valid. -/
structure Decoder where
  /-- The four measurement registers. -/
  record : Measurement
  /-- m_valid. -/
  mValid : Bool
deriving DecidableEq, Repr

/-- The Configuration register (R46). -/
structure ConfigReg where
  /-- cfg_f, index into FRAMINGS. -/
  f : BitVec 4
  /-- cfg_d, line-driver enable. -/
  d : Bool
  /-- cfg_a, device address. -/
  a : Byte
  /-- cfg_idx, candidate index when set by discovery, else 0. -/
  idx : Half
  /-- cfg_valid. -/
  valid : Bool
deriving DecidableEq, Repr

/-- The result registers (R44). -/
structure Result where
  /-- res_kind. -/
  kind : ResultCode
  /-- res_a. -/
  a : Byte
  /-- res_b. -/
  b : Byte
deriving DecidableEq, Repr

/-! ## Ports -/

/-- A record of the report stream (R50). -/
inductive Report where
  | cmdDone (op : Byte) (kind : ResultCode) (a b : Byte)
  | found (f : BitVec 4) (d : Bool) (addr : Byte) (idx : Half)
  | exhausted
  | poll (kind : ResultCode) (a b : Byte) (rec : Option Measurement)
  | fatal (kind : ResultCode)
deriving DecidableEq, Repr

/-- A transaction on the Transport port, with its argument (R80). -/
inductive Transaction where
  | openLink (id : LinkId)
  | configure (framing : Framing) (driver : Bool) (address : Byte)
  | write (bytes : Vector Byte 8)
  | bytesAvailable
  | read (maxBytes : Nat)
  | discardBuffers
  | delay (t : Duration)
deriving DecidableEq, Repr

/-- The host's answer to a transaction (R80). -/
inductive Answer where
  /-- Ok or Err, to open, configure and write. -/
  | status (r : Status)
  /-- A natural number, to bytes-available. -/
  | count (n : Nat)
  /-- The bytes a read returned. -/
  | bytes (r : List Byte)
  /-- The unit answer of discard and delay. -/
  | done
deriving DecidableEq, Repr

/-- What the outside does to the engine between two of its states (R23, R110, R80, R300). MODEL'S OWN (log 1). -/
inductive Event where
  /-- The caller presents a command word (R110, R111). -/
  | present (w : CommandWord)
  /-- The host answers the transaction of the current control point (R18, R80). -/
  | answer (a : Answer)
  /-- The reset event (R300). -/
  | reset
  /-- The outside lets the engine take its internal step first (Q_EXH, R242); see log 1. -/
  | internal
deriving DecidableEq, Repr

/-! ## The state -/

/-- Every element of R31, in the groups of R2, and three fields of the model's own: `params`, `inputs` and
`transactions`. -/
structure State where
  /-- crc, the CRC accumulator (R32). -/
  crc : Half
  /-- txbuf and tx_valid (R33, R34). -/
  enc : Encoder
  /-- rxbuf, rx_len, rx_want, rx_n and rx_ok (R35 to R39). -/
  rx : Receiver
  /-- avail, the last bytes-available answer (R56). -/
  avail : Nat
  /-- k, the wait loops' iteration counter (R56). -/
  k : Nat
  /-- The measurement registers and m_valid (R45). -/
  dec : Decoder
  /-- cfg_f, cfg_d, cfg_a, cfg_idx and cfg_valid (R46). -/
  cfg : ConfigReg
  /-- link_open (R47). -/
  linkOpen : Bool
  /-- ci, the candidate index (R43). -/
  ci : Half
  /-- ctl, the control point: the program counter (R40). -/
  ctl : Ctl
  /-- mode (R41). -/
  mode : Mode
  /-- cur, the latched command word (R42). -/
  cur : CommandWord
  /-- res_kind, res_a and res_b (R44). -/
  res : Result
  /-- reports, the report stream (R50). -/
  reports : List Report
  /-- The parameters of R10, constant (R49, R304). MODEL'S OWN as a field (log 2). -/
  params : Params
  /-- What the outside does next, oldest first. MODEL'S OWN (log 1). -/
  inputs : List Event
  /-- The transactions issued and answered so far, in order (R80, R93). MODEL'S OWN (log 3). -/
  transactions : List Transaction
deriving DecidableEq, Repr

/-- The reset values of R60, for given parameters. The three fields of the model's own: nothing in store, nothing issued. -/
def State.resetWith (p : Params) : State where
  crc := 0xFFFF
  enc := ⟨Vector.replicate 8 0x00, false⟩
  rx := ⟨Vector.replicate 21 0x00, 0, 0, 0, false⟩
  avail := 0
  k := 0
  dec := ⟨⟨0, 0, 0, 0⟩, false⟩
  cfg := ⟨0, false, 0, 0, false⟩
  linkOpen := false
  ci := 0
  ctl := .idle
  mode := .cmd
  cur := 0x0000000000000000
  res := ⟨.none, 0, 0⟩
  reports := []
  params := p
  inputs := []
  transactions := []

/-- The machine right after reset (R60, R300, R301), with the example parameters (log 2). -/
def State.reset : State := State.resetWith Params.vectorDefaults

/-! ## Why a step can stop

None of these is an instruction's: a presented word always has an effect (R110, R111, R115, R210). Each is a state
from which the spec gives the engine no step, or an input outside the host's duties. -/

/-- The reasons a step ends without a next state. All are safe: the model stops where the engine waits or the host breaks its
contract. -/
inductive Fault where
  /-- Raised by `step` at IDLE when the caller has presented nothing: the engine waits for a command (R301). Safe. -/
  | awaitingCommand
  /-- Raised by `step` at a transaction site when the host has not answered: the stuck state of R91 and U12. Safe. -/
  | awaitingAnswer
  /-- Raised by `step` at FATAL when nothing is presented: no step starts there (R247). Safe. -/
  | halted
  /-- Raised by `takeAnswer` at IDLE or FATAL: the host answered a transaction the engine did not issue (R91). Safe. -/
  | unsolicitedAnswer
  /-- Raised by `takeAnswer`: the answer has another type than R80 gives the transaction. Safe. -/
  | answerMismatch
  /-- Raised by `takeAnswer`: a read returned more bytes than it was asked for (R91, U11). Safe. -/
  | overlongRead
  /-- Raised by `step`: the event list asks for an internal step at another control point than Q_EXH (log 1). Safe. -/
  | noInternalStep
  /-- Raised by `takeAnswer`: a parameter list has no element at the index the site uses. No run with valid
  parameters reaches it (log 7). Safe. -/
  | noArgument
deriving DecidableEq, Repr

/-- The reasons an instruction has no meaning. -/
inductive Refusal where
  /-- Raised by `exec` for an instruction without a meaning yet. No arm raises it: all twelve are modelled. Safe. -/
  | notModelled (mnemonic : String)
deriving DecidableEq, Repr

end Sys2Proof.Machine
end

