-- ==== Sys2Proof/Machine/Operands.lean ====
section
/-! DEFINITION. How bytes become values and values become bytes: the request frame (41_frame_codec R170), register and
composite assembly (R78, R79, R191), the receive buffer's byte ranges (R186), and the candidate space (R232). -/

namespace Sys2Proof.Machine

/-! ## The request frame -/

/-- The upper byte of a 16-bit field, first on the wire (R76). -/
def hiByte (v : Half) : Byte := (v >>> 8).setWidth 8

/-- The lower byte of a 16-bit field, second on the wire (R76). -/
def loByte (v : Half) : Byte := v.setWidth 8

/-- Bytes 0 to 5 of a request frame (R120, R170). -/
def frameHeader (a fc : Byte) (s n : Half) : List Byte := [a, fc, hiByte s, loByte s, hiByte n, loByte n]

/-- build_frame(a, fc, s, n) (R170): the header, then its CRC low byte first (R77). -/
def buildFrame (a fc : Byte) (s n : Half) : Vector Byte 8 :=
  let c := crc16 (frameHeader a fc s n)
  #v[a, fc, hiByte s, loByte s, hiByte n, loByte n, crcLo c, crcHi c]

/-! ## Response frames -/

/-- want(n) = HDR_LEN + 2·n + 2 (R181). -/
def wantLen (n : Nat) : Nat := Config.hdrLen + 2 * n + 2

/-- reg(i): data register i of a frame in rxbuf, high byte first (R78, R191). rxbuf has room for MAX_REGS of them. -/
def reg (b : Vector Byte 21) (i : Fin 8) : Half :=
  (b[3 + 2 * i.val].setWidth 16 <<< 8) ||| b[4 + 2 * i.val].setWidth 16

/-- The 32-bit composite of two registers: the one received first is the low half (R79). -/
def composite (lowReg highReg : Half) : Word := lowReg.setWidth 32 ||| (highReg.setWidth 32 <<< 16)

/-- The raw integers the Register Layout Policy gives for a frame in rxbuf (R71, R191). -/
def decodeRecord (b : Vector Byte 21) : Measurement where
  voltage := reg b 0
  current := reg b 1
  power := composite (reg b 2) (reg b 3)
  energy := composite (reg b 4) (reg b 5)

/-- rxbuf[at .. at + |r| − 1] <- r (R184, R186). Nothing is written past the last byte. -/
def writeBytes (b : Vector Byte 21) (at_ : Nat) : List Byte → Vector Byte 21
  | [] => b
  | x :: xs => writeBytes (b.setIfInBounds at_ x) (at_ + 1) xs

/-! ## The candidate space (43_discovery R231, R232) -/

/-- One candidate: its framing's list position and the Configuration (framing, driver, address) of R12. -/
structure Candidate where
  f : BitVec 4
  framing : Framing
  driver : Bool
  address : Byte
deriving DecidableEq, Repr

/-- a_idx(i) (R232). -/
def addressIndex (p : Params) (i : Nat) : Nat := i % p.na

/-- d_idx(i) (R232). -/
def driverIndex (p : Params) (i : Nat) : Nat := (i / p.na) % p.nd

/-- f_idx(i) (R232). -/
def framingIndex (p : Params) (i : Nat) : Nat := i / (p.na * p.nd)

/-- cand(i) (R232); none past the end of a parameter list. -/
def candidate (p : Params) (i : Nat) : Option Candidate :=
  match p.framings[framingIndex p i]?, p.driverModes[driverIndex p i]?, p.addresses[addressIndex p i]? with
  | some framing, some driver, some address => some ⟨BitVec.ofNat 4 (framingIndex p i), framing, driver, address⟩
  | _, _, _ => none

end Sys2Proof.Machine
end

