-- ==== Sys2Proof/Machine/Flags.lean ====
section
/-! DEFINITION. The bits that drive control (10_state R51: there are no condition codes): the tests for refusals
(60_exceptions R271 row 3, in the order R278 fixes) and the two tests on a received frame (R184, R187). -/

namespace Sys2Proof.Machine

/-- A COUNT that RECEIVE and READ accept: 1 ≤ COUNT ≤ MAX_REGS, on the whole 16-bit field (R117). -/
def countOk (count : Half) : Bool := decide (1 ≤ count.toNat) && decide (count.toNat ≤ Config.maxRegs)

/-- SEND is refused: link_open = 0 or tx_valid = 0 (R220). -/
def State.refusesSend (s : State) : Bool := !s.linkOpen || !s.enc.txValid

/-- RECEIVE and READ are refused: link_open = 0 or COUNT out of range (R180, R198). -/
def State.refusesCount (s : State) (count : Half) : Bool := !s.linkOpen || !countOk count

/-- DECODE is refused: rx_ok = 0 or rx_n < 6 (R190). -/
def State.refusesDecode (s : State) : Bool := !s.rx.rxOk || decide (s.rx.rxN.toNat < Config.recordRegs)

/-- LINK_CONFIG is refused: link_open = 0 or f ≥ NF (R214). -/
def State.refusesConfig (s : State) (f : BitVec 4) : Bool := !s.linkOpen || decide (s.params.nf ≤ f.toNat)

/-- LINK_DISCARD is refused: link_open = 0 (R217). -/
def State.refusesDiscard (s : State) : Bool := !s.linkOpen

/-- The bytes rxbuf[0 .. rx_want − 1]: the whole frame of a completed reception (R39, R187). -/
def State.frame (s : State) : List Byte := s.rx.rxbuf.toList.take s.rx.rxWant.toNat

/-- The checksum computed in phase E: crc16(rxbuf[0 .. rx_want − 3]) (R187). -/
def State.frameCrc (s : State) : Half := crc16 (s.rx.rxbuf.toList.take (s.rx.rxWant.toNat - 2))

/-- Phase E's test: rxbuf[rx_want − 2] and rxbuf[rx_want − 1] are that checksum, low byte first (R187). -/
def State.trailerOk (s : State) : Bool :=
  (s.rx.rxbuf.toList.drop (s.rx.rxWant.toNat - 2)).take 2 == crcTrailer s.frameCrc

/-- Phase B's test: bit 7 of rxbuf[1] (R184). -/
def State.exceptionBit (s : State) : Bool := s.rx.rxbuf[1].getLsbD 7

end Sys2Proof.Machine
end

