-- ==== Sys2Proof/Machine/Ops.lean ====
section
/-! DEFINITION. The named operations every rule is written with (00_scope R17, R19): results and reports, entering an
outcome, accepting and refusing a command, loading the transmit buffer, starting a reception, decoding. -/

namespace Sys2Proof.Machine

/-! ## Registers and ports -/

/-- ctl <- P (R17). -/
def State.goto (s : State) (c : Ctl) : State := { s with ctl := c }

/-- finish(code, a, b): the result registers and nothing else (R17, R44). -/
def State.finish (s : State) (code : ResultCode) (a b : Byte) : State := { s with res := ⟨code, a, b⟩ }

/-- emit Rec: append one record to the report stream (R17, R50). -/
def State.emit (s : State) (r : Report) : State := { s with reports := s.reports ++ [r] }

/-- The Transport port's history grows by the transaction just answered (R80, R93; log 3). -/
def State.issue (s : State) (t : Transaction) : State := { s with transactions := s.transactions ++ [t] }

/-! ## Entering an outcome (R280), and going on after it (R283)

The engine has no traps. An outcome is written in one place: the result registers, one report, the continuation. It
changes no mode, masks nothing and saves nothing. -/

/-- A command's outcome: finish, CMD_DONE, back to IDLE (R280). -/
def State.complete (s : State) (op : Byte) (code : ResultCode) (a b : Byte) : State :=
  ((s.finish code a b).emit (.cmdDone op code a b)).goto .idle

/-- `refuse` in an acceptance step: CMD_REFUSED for the latched OP (R19). -/
def State.refuse (s : State) : State := s.complete s.cur.op .cmdRefused 0 0

/-- fatal(code): the outcome that stops the engine (R247). -/
def State.fatal (s : State) (code : ResultCode) : State :=
  ((s.finish code 0 0).emit (.fatal code)).goto .fatal

/-! ## Presenting a command word (R110, R111) -/

/-- Acceptance latches the word and sets the mode (R110). -/
def State.latch (s : State) (w : CommandWord) : State := { s with cur := w, mode := .cmd }

/-- The refusal of a word presented while ctl ≠ IDLE: no latch, no change of control (R111). -/
def State.refuseBusy (s : State) (op : Byte) : State :=
  (s.finish .cmdRefused 0 0).emit (.cmdDone op .cmdRefused 0 0)

/-- Present a word whose OP is not NOP: accepted at IDLE, where `run` is the operation's acceptance code, else refused (R110,
R111). -/
def State.offer (s : State) (w : CommandWord) (run : State → State) : State :=
  if s.ctl = .idle then run (s.latch w) else s.refuseBusy w.op

/-- Present a word with a reserved OP (R115): refused, busy or not. -/
def State.offerReserved (s : State) (w : CommandWord) : State := s.offer w State.refuse

/-! ## Shared procedures of the frame codec -/

/-- load_tx(a, fc, s, n): a fresh frame in txbuf, its CRC in the accumulator (R172). -/
def State.loadTx (s : State) (a fc : Byte) (start n : Half) : State :=
  { s with enc := ⟨buildFrame a fc start n, true⟩, crc := crc16 (frameHeader a fc start n) }

/-- The first site of a request write: the discard when DISCARD_BEFORE_SEND, else the write (R220). -/
def State.gotoSend (s : State) (discard write : Ctl) : State :=
  s.goto (if s.params.discardBeforeSend then discard else write)

/-- rx_begin(n): start a reception of n registers, clearing what a stale frame could leave (R182). -/
def State.rxBegin (s : State) (n : Half) : State :=
  { s with
    rx := { s.rx with rxN := n.setWidth 8, rxWant := BitVec.ofNat 8 (wantLen n.toNat), rxLen := 0, rxOk := false }
    dec := { s.dec with mValid := false }
    avail := 0
    k := 0
    ctl := .raDelay }

/-- decode_into_m(): the measurement registers from rxbuf (R191). -/
def State.decodeIntoM (s : State) : State := { s with dec := ⟨decodeRecord s.rx.rxbuf, true⟩ }

/-- Store the bytes a read returned at rx_len and advance it (R184, R186). -/
def State.storeBytes (s : State) (r : List Byte) : State :=
  { s with
    rx := { s.rx with
      rxbuf := writeBytes s.rx.rxbuf s.rx.rxLen.toNat r
      rxLen := s.rx.rxLen + BitVec.ofNat 8 r.length } }

/-- A wait loop's Delay has returned: k <- k + 1, then the availability query (R183, R185, R239). -/
def State.tick (s : State) (c : Ctl) : State := { s with k := s.k + 1, ctl := c }

/-- avail <- T.BytesAvailable() (R56). -/
def State.setAvail (s : State) (n : Nat) : State := { s with avail := n }

/-- link_open <- 1 (R47). -/
def State.openLink (s : State) : State := { s with linkOpen := true }

/-! ## Reset (R300) -/

/-- The reset event: every engine element at its value of R60, in one event. It does not reach the Transport (R302), so the
port's history stands, and what the outside still has in store stands too (log 1, log 3). -/
def State.resetEvent (s : State) : State :=
  { State.resetWith s.params with inputs := s.inputs, transactions := s.transactions }

end Sys2Proof.Machine
end

