-- ==== Sys2Proof/Machine/Reception.lean ====
section
/-! DEFINITION. The response receiver (41_frame_codec R182 to R189): what each of its transaction sites does with the
answer, up to the next site or to the end of the reception. -/

namespace Sys2Proof.Machine

/-! ## Ending a reception (R188) -/

/-- read_after_rx(code, a, b): complete a READ, decoding when OK and n ≥ 6 (R199). -/
def State.readAfterRx (s : State) (code : ResultCode) (a b : Byte) : State :=
  (if code = .ok ∧ Config.recordRegs ≤ s.rx.rxN.toNat then s.decodeIntoM else s).complete 0x14 code a b

/-- poll_after_rx(code, a, b): end one polling read, report it, wait for the next (R244). -/
def State.pollAfterRx (s : State) (code : ResultCode) (a b : Byte) : State :=
  if code = .ok then
    let t := s.decodeIntoM.finish .ok 0 0
    (t.emit (.poll .ok 0 0 (some t.dec.record))).goto .pDelay
  else
    ((s.finish code a b).emit (.poll code a b none)).goto .pDelay

/-- rx_done(code, a, b) (R188). In a state that no run reaches, where none of its three conditions holds, it does
nothing (log 7). -/
def State.rxDone (s : State) (code : ResultCode) (a b : Byte) : State :=
  match s.mode with
  | .cmd =>
    if s.cur.op = 0x12 then s.complete 0x12 code a b
    else if s.cur.op = 0x14 then s.readAfterRx code a b
    else s
  | .seq => s.pollAfterRx code a b

/-! ## Phase C, the completion wait (R185) -/

/-- check_C(): complete, budget used up, or wait on. The sum is exact; it is truncated only when it goes into res_a (R14). -/
def State.checkC (s : State) : State :=
  if s.rx.rxWant.toNat ≤ s.rx.rxLen.toNat + s.avail then s.goto .rdRead
  else if s.k = s.params.wait2Iters then
    s.rxDone .partialFrame (BitVec.ofNat 8 (s.rx.rxLen.toNat + s.avail)) s.rx.rxWant
  else s.goto .rcDelay

/-- enter_C() (R185). -/
def State.enterC (s : State) : State := State.checkC { s with k := 0 }

/-! ## Phase A, the first-arrival wait (R183) -/

/-- RA_AVAIL's continuation. -/
def State.raAvailed (s : State) (n : Nat) : State :=
  let t := s.setAvail n
  if 0 < n then
    if n = Config.excLen then t.goto .rbRead else t.enterC
  else if t.k = t.params.wait1Iters then t.rxDone .noResponse 0 0
  else t.goto .raDelay

/-! ## Phase B, the exception test (R184) -/

/-- What RB_READ asks for: 5 − rx_len. -/
def State.excMissing (s : State) : Nat := Config.excLen - s.rx.rxLen.toNat

/-- RB_READ's continuation. -/
def State.rbGot (s : State) (r : List Byte) : State :=
  if r = [] then s.rxDone .partialFrame s.rx.rxLen s.rx.rxWant
  else
    let t := s.storeBytes r
    if t.rx.rxLen.toNat < Config.excLen then t.goto .rbRead
    else if t.exceptionBit then t.rxDone .deviceException t.rx.rxbuf[2] 0
    else (t.setAvail 0).enterC

/-! ## Phases D and E, the read to completion and the checksum (R186, R187) -/

/-- check_E(). -/
def State.checkE (s : State) : State :=
  let t := { s with crc := s.frameCrc }
  if s.trailerOk then State.rxDone { t with rx := { t.rx with rxOk := true } } .ok 0 0
  else t.rxDone .checksumError 0 0

/-- What RD_READ asks for: rx_want − rx_len. -/
def State.missing (s : State) : Nat := s.rx.rxWant.toNat - s.rx.rxLen.toNat

/-- RD_READ's continuation. -/
def State.rdGot (s : State) (r : List Byte) : State :=
  if r = [] then s.rxDone .partialFrame s.rx.rxLen s.rx.rxWant
  else
    let t := s.storeBytes r
    if t.rx.rxLen.toNat < t.rx.rxWant.toNat then t.goto .rdRead else t.checkE

end Sys2Proof.Machine
end

