-- ==== Sys2Proof/Machine/Codec.lean ====
section
/-! DEFINITION. The commands of the CRC unit and the frame codec: CRC_INIT, CRC_BYTE (40_crc), BUILD, RECEIVE, DECODE, READ
(41_frame_codec). Each meaning is what presenting the command does in its acceptance step. -/

namespace Sys2Proof.Machine

/-- CRC_INIT (R157). -/
def execCrcInit (ign : BitVec 56) (s : State) : Host.Outcome State Fault Refusal :=
  .next (s.offer (encode (.crcInit ign)) fun t => State.complete { t with crc := Config.crcInit } 0x01 .ok 0 0)

/-- CRC_BYTE (R158). -/
def execCrcByte (ign : BitVec 48) (data : Byte) (s : State) : Host.Outcome State Fault Refusal :=
  .next (s.offer (encode (.crcByte ign data)) fun t => State.complete { t with crc := crcStep t.crc data } 0x02 .ok 0 0)

/-- BUILD (R171): any ADDR, FC, START and COUNT. -/
def execBuild (addr fc : Byte) (start count : Half) (ign : Byte) (s : State) : Host.Outcome State Fault Refusal :=
  .next (s.offer (encode (.build addr fc start count ign)) fun t => (t.loadTx addr fc start count).complete 0x10 .ok 0 0)

/-- RECEIVE (R180): phases A to E follow at the sites RA_DELAY to RD_READ. -/
def execReceive (ignHi : BitVec 32) (count : Half) (ignLo : Byte) (s : State) : Host.Outcome State Fault Refusal :=
  .next (s.offer (encode (.receive ignHi count ignLo)) fun t =>
    if t.refusesCount count then t.refuse else t.rxBegin count)

/-- DECODE (R190). -/
def execDecode (ign : BitVec 56) (s : State) : Host.Outcome State Fault Refusal :=
  .next (s.offer (encode (.decode ign)) fun t =>
    if t.refusesDecode then t.refuse else t.decodeIntoM.complete 0x13 .ok 0 0)

/-- READ (R198): FC is ignored, 0x04 is sent. The send sites, the reception and read_after_rx follow. -/
def execRead (addr ignFc : Byte) (start count : Half) (ignData : Byte) (s : State) : Host.Outcome State Fault Refusal :=
  .next (s.offer (encode (.read addr ignFc start count ignData)) fun t =>
    if t.refusesCount count then t.refuse
    else (t.loadTx addr Config.fcReadInput start count).gotoSend .sDisc .sWrite)

end Sys2Proof.Machine
end

