-- ==== Sys2Proof/Machine/Discovery.lean ====
section
/-! DEFINITION. The sequencer (43_discovery): DISC_START, the discovery state machine and the polling loop. -/

namespace Sys2Proof.Machine

/-! ## Procedures -/

/-- probe_begin(i) (R237). -/
def State.probeBegin (s : State) (i : Half) : State := { s with ci := i, ctl := .qConf }

/-- advance(): the next candidate, or Exhausted after the last (R240). -/
def State.advance (s : State) : State :=
  if s.ci.toNat + 1 < s.params.size then s.probeBegin (s.ci + 1) else s.goto .qExh

/-- found(), for the candidate c = cand(ci) (R241). -/
def State.found (s : State) (c : Candidate) : State :=
  (State.emit { s with cfg := ⟨c.f, c.driver, c.address, s.ci, true⟩ } (.found c.f c.driver c.address s.ci)).goto .qFdisc

/-- poll_begin() (R243). -/
def State.pollBegin (s : State) : State :=
  (s.loadTx s.cfg.a Config.fcReadInput Config.pollStart Config.pollCount).gotoSend .sDisc .sWrite

/-! ## The command -/

/-- DISC_START (R235). -/
def execDiscStart (ign : BitVec 56) (s : State) : Host.Outcome State Fault Refusal :=
  .next (s.offer (encode (.discStart ign)) fun t =>
    let u := { t with mode := .seq, ci := 0 }
    if u.linkOpen then u.probeBegin 0 else u.goto .qOpen)

/-! ## Continuations -/

/-- Q_OPEN's continuation (R236). -/
def State.sessionOpened (s : State) : Status → State
  | .ok => s.openLink.probeBegin 0
  | .err => s.fatal .linkOpenFailure

/-- Q_CONF's continuation, for c = cand(ci) (R237). -/
def State.probeConfigured (s : State) (c : Candidate) : Status → State
  | .ok => (s.loadTx c.address Config.fcReadInput Config.probeStart Config.probeCount).gotoSend .qSdisc .qWrite
  | .err => s.advance

/-- Q_WRITE's continuation (R238). -/
def State.probeWritten (s : State) : Status → State
  | .ok => { s with k := 0, avail := 0, ctl := .qDelay }
  | .err => s.advance

/-- Q_AVAIL's continuation, for c = cand(ci) (R239). -/
def State.probeAvailed (s : State) (c : Candidate) (n : Nat) : State :=
  let t := s.setAvail n
  if t.params.probeMinBytes ≤ n then t.found c
  else if t.k = t.params.probeIters then t.advance
  else t.goto .qDelay

/-- Q_EXH, the internal step: report the exhaustion, start again at candidate 0 (R242). -/
def State.exhaust (s : State) : State := (s.emit .exhausted).probeBegin 0

end Sys2Proof.Machine
end

