-- ==== Sys2Proof/Machine/Link.lean ====
section
/-! DEFINITION. The link commands (42_link): NOP, LINK_OPEN, LINK_CONFIG, LINK_DISCARD, SEND, and the continuations of their
transaction sites. -/

namespace Sys2Proof.Machine

/-! ## Acceptance -/

/-- NOP (R210): never accepted, no effect at any control point, IDLE included. -/
def execNop (_ign : BitVec 56) (s : State) : Host.Outcome State Fault Refusal := .next s

/-- SEND (R220). -/
def execSend (ign : BitVec 56) (s : State) : Host.Outcome State Fault Refusal :=
  .next (s.offer (encode (.send ign)) fun t => if t.refusesSend then t.refuse else t.gotoSend .sDisc .sWrite)

/-- LINK_OPEN (R212): an open link is not opened again. -/
def execLinkOpen (ign : BitVec 56) (s : State) : Host.Outcome State Fault Refusal :=
  .next (s.offer (encode (.linkOpen ign)) fun t => if t.linkOpen then t.complete 0x18 .ok 0 0 else t.goto .lOpen)

/-- LINK_CONFIG (R214, R116). -/
def execLinkConfig (addr : Byte) (ignMid : BitVec 40) (ignTop : BitVec 3) (driver : Bool) (framing : BitVec 4) (s : State) :
    Host.Outcome State Fault Refusal :=
  .next (s.offer (encode (.linkConfig addr ignMid ignTop driver framing)) fun t =>
    if t.refusesConfig framing then t.refuse else t.goto .lConf)

/-- LINK_DISCARD (R217). -/
def execLinkDiscard (ign : BitVec 56) (s : State) : Host.Outcome State Fault Refusal :=
  .next (s.offer (encode (.linkDiscard ign)) fun t => if t.refusesDiscard then t.refuse else t.goto .lDisc)

/-! ## Continuations -/

/-- L_OPEN's continuation (R212). -/
def State.linkOpened (s : State) : Status → State
  | .ok => s.openLink.complete 0x18 .ok 0 0
  | .err => s.complete 0x18 .linkOpenFailure 0 0

/-- L_CONF's continuation (R214): the Configuration register from the latched operands. -/
def State.linkConfigured (s : State) : Status → State
  | .ok => State.complete { s with cfg := ⟨s.cur.framing, s.cur.driver, s.cur.addr, 0, true⟩ } 0x19 .ok 0 0
  | .err => s.complete 0x19 .transportFailure 0 0

/-- L_DISC's continuation (R217). -/
def State.linkDiscarded (s : State) : State := s.complete 0x1A .ok 0 0

/-- write_done(r), the continuation of S_WRITE for SEND, READ and the polling read (R219, R221). In a state that no
run reaches, where none of its conditions holds, it does nothing (log 7). -/
def State.writeDone (s : State) (r : Status) : State :=
  match s.mode with
  | .cmd =>
    if s.cur.op = 0x11 then s.complete 0x11 (if r = .ok then .ok else .transportFailure) 0 0
    else if s.cur.op = 0x14 then
      (if r = .ok then s.rxBegin s.cur.count else s.complete 0x14 .transportFailure 0 0)
    else s
  | .seq => if r = .ok then s.rxBegin Config.pollCount else s.pollAfterRx .transportFailure 0 0

end Sys2Proof.Machine
end

