-- ==== Sys2Proof/Machine/Dispatch.lean ====
section
/-! DEFINITION. What presenting each command does (30_encoding R110, R111, R114): one arm per constructor. -/

namespace Sys2Proof.Machine

def exec (i : Instr) (s : State) : Host.Outcome State Fault Refusal :=
  match i with
  | .nop ign => Sys2Proof.Machine.execNop ign s
  | .crcInit ign => Sys2Proof.Machine.execCrcInit ign s
  | .crcByte ign data => Sys2Proof.Machine.execCrcByte ign data s
  | .build addr fc start count ign => Sys2Proof.Machine.execBuild addr fc start count ign s
  | .send ign => Sys2Proof.Machine.execSend ign s
  | .receive ignHi count ignLo => Sys2Proof.Machine.execReceive ignHi count ignLo s
  | .decode ign => Sys2Proof.Machine.execDecode ign s
  | .read addr ignFc start count ignData => Sys2Proof.Machine.execRead addr ignFc start count ignData s
  | .linkOpen ign => Sys2Proof.Machine.execLinkOpen ign s
  | .linkConfig addr ignMid ignTop driver framing => Sys2Proof.Machine.execLinkConfig addr ignMid ignTop driver framing s
  | .linkDiscard ign => Sys2Proof.Machine.execLinkDiscard ign s
  | .discStart ign => Sys2Proof.Machine.execDiscStart ign s

end Sys2Proof.Machine
end

