-- ==== Sys2Proof/Machine/Sites.lean ====
section
/-! DEFINITION. The control points (10_state R40): which transaction each site issues, and what the engine does with the host's
answer in the same step (00_scope R18). -/

namespace Sys2Proof.Machine

/-- cand(ci) (R43, R232). -/
def State.candidate (s : State) : Option Candidate := Sys2Proof.Machine.candidate s.params s.ci.toNat

/-- The transaction the site at ctl issues (R40, R80). None at IDLE, Q_EXH and FATAL, which are no sites, and where a
parameter list has no such element (log 7). -/
def State.request (s : State) : Option Transaction :=
  match s.ctl with
  | .idle => none
  | .lOpen => some (.openLink s.params.linkId)
  | .lConf => s.params.framings[s.cur.framing.toNat]?.map fun v => .configure v s.cur.driver s.cur.addr
  | .lDisc => some .discardBuffers
  | .sDisc => some .discardBuffers
  | .sWrite => some (.write s.enc.txbuf)
  | .raDelay => some (.delay s.params.interval1)
  | .raAvail => some .bytesAvailable
  | .rbRead => some (.read s.excMissing)
  | .rcDelay => some (.delay s.params.interval2)
  | .rcAvail => some .bytesAvailable
  | .rdRead => some (.read s.missing)
  | .qOpen => some (.openLink s.params.linkId)
  | .qConf => s.candidate.map fun c => .configure c.framing c.driver c.address
  | .qSdisc => some .discardBuffers
  | .qWrite => some (.write s.enc.txbuf)
  | .qDelay => some (.delay s.params.probeInterval)
  | .qAvail => some .bytesAvailable
  | .qFdisc => some .discardBuffers
  | .qExh => none
  | .pDelay => some (.delay s.params.pollPeriod)
  | .fatal => none

/-! ## Answers of the type the site's transaction has (R80) -/

/-- Go on with an Ok or Err answer. -/
def onStatus (a : Answer) (f : Status → State) : Host.Outcome State Fault Refusal :=
  match a with
  | .status r => .next (f r)
  | .count _ => .fault .answerMismatch
  | .bytes _ => .fault .answerMismatch
  | .done => .fault .answerMismatch

/-- Go on with a bytes-available answer: any natural number (R90). -/
def onCount (a : Answer) (f : Nat → State) : Host.Outcome State Fault Refusal :=
  match a with
  | .count n => .next (f n)
  | .status _ => .fault .answerMismatch
  | .bytes _ => .fault .answerMismatch
  | .done => .fault .answerMismatch

/-- Go on with the bytes of a read: at most `m` of them, of any values (R90, R91). -/
def onBytes (a : Answer) (m : Nat) (f : List Byte → State) : Host.Outcome State Fault Refusal :=
  match a with
  | .bytes r => if r.length ≤ m then .next (f r) else .fault .overlongRead
  | .status _ => .fault .answerMismatch
  | .count _ => .fault .answerMismatch
  | .done => .fault .answerMismatch

/-- Go on with the unit answer of a discard or a delay. -/
def onDone (a : Answer) (t : State) : Host.Outcome State Fault Refusal :=
  match a with
  | .done => .next t
  | .status _ => .fault .answerMismatch
  | .count _ => .fault .answerMismatch
  | .bytes _ => .fault .answerMismatch

/-- Go on with cand(ci). -/
def withCandidate (s : State) (f : Candidate → Host.Outcome State Fault Refusal) : Host.Outcome State Fault Refusal :=
  match s.candidate with
  | some c => f c
  | none => .fault .noArgument

/-! ## The step of each site -/

/-- The code after the site's line, run with the host's answer (R18, R40). -/
def State.resume (s : State) (a : Answer) : Host.Outcome State Fault Refusal :=
  match s.ctl with
  | .idle => .fault .unsolicitedAnswer
  | .lOpen => onStatus a s.linkOpened
  | .lConf => onStatus a s.linkConfigured
  | .lDisc => onDone a s.linkDiscarded
  | .sDisc => onDone a (s.goto .sWrite)
  | .sWrite => onStatus a s.writeDone
  | .raDelay => onDone a (s.tick .raAvail)
  | .raAvail => onCount a s.raAvailed
  | .rbRead => onBytes a s.excMissing s.rbGot
  | .rcDelay => onDone a (s.tick .rcAvail)
  | .rcAvail => onCount a fun n => (s.setAvail n).checkC
  | .rdRead => onBytes a s.missing s.rdGot
  | .qOpen => onStatus a s.sessionOpened
  | .qConf => withCandidate s fun c => onStatus a (s.probeConfigured c)
  | .qSdisc => onDone a (s.goto .qWrite)
  | .qWrite => onStatus a s.probeWritten
  | .qDelay => onDone a (s.tick .qAvail)
  | .qAvail => withCandidate s fun c => onCount a (s.probeAvailed c)
  | .qFdisc => onDone a s.pollBegin
  | .qExh => .fault .unsolicitedAnswer
  | .pDelay => onDone a s.pollBegin
  | .fatal => .fault .unsolicitedAnswer

/-- The host answers (R90): the site's transaction has been issued, and the engine goes on with the answer. At a control
point that is no site there is no transaction to answer (R91). -/
def State.takeAnswer (s : State) (a : Answer) : Host.Outcome State Fault Refusal :=
  match s.request with
  | some t => (s.issue t).resume a
  | none =>
    match s.ctl with
    | .idle => .fault .unsolicitedAnswer
    | .fatal => .fault .unsolicitedAnswer
    | _ => .fault .noArgument

/-- The engine moves by itself: its internal step at Q_EXH (R242). Anywhere else it waits: for the caller at IDLE, for the
host at a site (R91), for reset at FATAL (R247). -/
def State.goOn (s : State) : Host.Outcome State Fault Refusal :=
  match s.ctl with
  | .qExh => .next s.exhaust
  | .idle => .fault .awaitingCommand
  | .fatal => .fault .halted
  | _ => .fault .awaitingAnswer

end Sys2Proof.Machine
end

