-- ==== Sys2Proof/Machine/Present.lean ====
section
/-! DEFINITION. What one event of the outside does (00_scope R23): a presented word is decoded and run, an answer resumes the
site, reset resets, and the internal step runs where there is one. -/

namespace Sys2Proof.Machine

/-- The caller presents a word (R110, R111): an assigned OP runs its instruction, a reserved one is refused (R115). -/
def State.present (s : State) (w : CommandWord) : Host.Outcome State Fault Refusal :=
  match decode w with
  | .ok i => exec i s
  | .error (.reservedOp _) => .next (s.offerReserved w)

/-- The outside lets the internal step run first (log 1). -/
def State.internalStep (s : State) : Host.Outcome State Fault Refusal :=
  match s.ctl with
  | .qExh => .next s.exhaust
  | _ => .fault .noInternalStep

/-- The host's answer is next in store. At Q_EXH the internal step comes first, and the answer stays in store for the
transaction that follows it (R242; log 1). -/
def State.answered (s : State) (a : Answer) (rest : List Event) : Host.Outcome State Fault Refusal :=
  match s.ctl with
  | .qExh => .next s.exhaust
  | _ => State.takeAnswer { s with inputs := rest } a

/-- One step of the machine: the next event in store, or the engine's own move when there is none. -/
def State.onEvents (s : State) : List Event → Host.Outcome State Fault Refusal
  | [] => s.goOn
  | .present w :: rest => State.present { s with inputs := rest } w
  | .answer a :: rest => s.answered a rest
  | .reset :: rest => .next (State.resetEvent { s with inputs := rest })
  | .internal :: rest => State.internalStep { s with inputs := rest }

end Sys2Proof.Machine
end

