-- ==== Sys2Proof/Machine/Step.lean ====
section
/-! DEFINITION. The machine's step, and the host's way of placing a command word where the next step takes it from. -/

namespace Sys2Proof.Machine

/-- One step (R18, R110, R111, R300): what the outside has in store next happens to the engine. -/
def step (s : State) : Host.Outcome State Fault Refusal := s.onEvents s.inputs

/-- `s` with the command word `w` (its `nbits` low bits, the rest zero) presented next, before everything else in
store. There is no instruction memory (R95): the command port is where a step takes its instruction from. -/
def State.withFetchWord (s : State) (nbits w : Nat) : State :=
  { s with inputs := .present (BitVec.ofNat 64 (w % 2 ^ nbits)) :: s.inputs }

end Sys2Proof.Machine
end

