-- ==== Sys2Proof/Machine/Asm.lean ====
section
/-! DEFINITION. The assembly language of the command set (30_encoding R140 to R143): statements and their command words, the
disassembler, the pseudo-instructions, and the text form of a line. It is no part of a step. -/

namespace Sys2Proof.Machine

/-! ## Statements -/

/-- The operand names of R141. -/
inductive OperandName where
  | addr | fc | start | count | data | framing | driver
deriving DecidableEq, Repr

/-- The mnemonics of R141. -/
inductive Mnemonic where
  | nop | crcInit | crcByte | build | send | recv | decode | read | linkOpen | linkConfig | linkDiscard | discStart
deriving DecidableEq, Repr

/-- An operand `name=value`. -/
abbrev Operand := OperandName × Nat

/-- One line's statement: a command, a raw word as the disassembler prints it (R142), or a pseudo-instruction (R143). -/
inductive AsmStatement where
  | command (m : Mnemonic) (operands : List Operand)
  | word (value : Nat)
  | crc16 (bytes : List Nat)
  | crcCheck (bytes : List Nat)
  | probe (operands : List Operand)
  | pollRead (operands : List Operand)
  | req (operands : List Operand)
deriving DecidableEq, Repr

/-- What is wrong with a line. -/
inductive AsmError where
  /-- The mnemonic is none of R141 and R143. -/
  | unknownMnemonic
  /-- An operand the mnemonic does not list (R140). -/
  | operandNotListed
  /-- The same operand twice. DESIGN CHOICE (log 13): R140 does not say. -/
  | operandTwice
  /-- A value that does not fit its field. DESIGN CHOICE (log 13): R140 does not say. -/
  | valueTooWide
  /-- The text is not `name=value, …` with a decimal or 0x value (R140). -/
  | badSyntax
deriving DecidableEq, Repr

/-! ## Encoding (R112, R141) -/

/-- The width of an operand's field in bits (R112, R116). -/
def OperandName.width : OperandName → Nat
  | .addr => 8
  | .fc => 8
  | .start => 16
  | .count => 16
  | .data => 8
  | .framing => 4
  | .driver => 1

/-- The place of an operand's lowest bit in the word (R112, R116). -/
def OperandName.place : OperandName → Nat
  | .addr => 48
  | .fc => 40
  | .start => 24
  | .count => 8
  | .data => 0
  | .framing => 0
  | .driver => 4

/-- OP (R141). -/
def Mnemonic.op : Mnemonic → Nat
  | .nop => 0x00
  | .crcInit => 0x01
  | .crcByte => 0x02
  | .build => 0x10
  | .send => 0x11
  | .recv => 0x12
  | .decode => 0x13
  | .read => 0x14
  | .linkOpen => 0x18
  | .linkConfig => 0x19
  | .linkDiscard => 0x1A
  | .discStart => 0x20

/-- The operands a mnemonic lists, in the order of R141. -/
def Mnemonic.operands : Mnemonic → List OperandName
  | .nop => []
  | .crcInit => []
  | .crcByte => [.data]
  | .build => [.addr, .fc, .start, .count]
  | .send => []
  | .recv => [.count]
  | .decode => []
  | .read => [.addr, .start, .count]
  | .linkOpen => []
  | .linkConfig => [.addr, .framing, .driver]
  | .linkDiscard => []
  | .discStart => []

/-- The operands of a line, checked against those listed (R140). -/
def checkOperands (listed : List OperandName) : List Operand → Except AsmError Unit
  | [] => .ok ()
  | (n, v) :: rest =>
    if n ∉ listed then .error .operandNotListed
    else if (rest.map Prod.fst).contains n then .error .operandTwice
    else if 2 ^ n.width ≤ v then .error .valueTooWide
    else checkOperands listed rest

/-- The operands' share of the word: each value at its place (R141). An omitted operand adds 0 (R140). -/
def placeOperands : List Operand → Nat
  | [] => 0
  | (n, v) :: rest => v * 2 ^ n.place + placeOperands rest

/-- One command's word, OP·2^56 plus the operands (R141). -/
def assembleCommand (m : Mnemonic) (operands : List Operand) : Except AsmError CommandWord :=
  match checkOperands m.operands operands with
  | .ok _ => .ok (BitVec.ofNat 64 (m.op * 2 ^ 56 + placeOperands operands))
  | .error e => .error e

/-- The words of several commands in order, or the first error. -/
def assembleCommands : List (Mnemonic × List Operand) → Except AsmError (List CommandWord)
  | [] => .ok []
  | (m, operands) :: rest =>
    match assembleCommand m operands, assembleCommands rest with
    | .ok w, .ok ws => .ok (w :: ws)
    | .error e, _ => .error e
    | .ok _, .error e => .error e

/-- The real commands a statement stands for (R143); a pseudo-instruction's operands are those its expansion names. -/
def AsmStatement.expand : AsmStatement → Except AsmError (List (Mnemonic × List Operand))
  | .command m operands => .ok [(m, operands)]
  | .word _ => .ok []
  | .crc16 bytes => .ok ((.crcInit, []) :: bytes.map fun b => (.crcByte, [(.data, b)]))
  | .crcCheck bytes => .ok ((.crcInit, []) :: bytes.map fun b => (.crcByte, [(.data, b)]))
  | .probe operands =>
    match checkOperands [.addr] operands with
    | .ok _ => .ok [(.read, operands ++ [(.start, 0x0000), (.count, 1)])]
    | .error e => .error e
  | .pollRead operands =>
    match checkOperands [.addr] operands with
    | .ok _ => .ok [(.read, operands ++ [(.start, 0x0000), (.count, 8)])]
    | .error e => .error e
  | .req operands =>
    match checkOperands [.addr, .start, .count] operands with
    | .ok _ => .ok [(.build, operands ++ [(.fc, 0x04)]), (.send, [])]
    | .error e => .error e

/-- The command words of a statement (R140 to R143). -/
def AsmStatement.assemble : AsmStatement → Except AsmError (List CommandWord)
  | .word value => if 2 ^ 64 ≤ value then .error .valueTooWide else .ok [BitVec.ofNat 64 value]
  | st =>
    match st.expand with
    | .ok commands => assembleCommands commands
    | .error e => .error e

/-! ## Disassembly (R142) -/

/-- The mnemonic of an OP, none for a reserved one. -/
def mnemonicOf (op : Nat) : Option Mnemonic :=
  match op with
  | 0x00 => some .nop
  | 0x01 => some .crcInit
  | 0x02 => some .crcByte
  | 0x10 => some .build
  | 0x11 => some .send
  | 0x12 => some .recv
  | 0x13 => some .decode
  | 0x14 => some .read
  | 0x18 => some .linkOpen
  | 0x19 => some .linkConfig
  | 0x1A => some .linkDiscard
  | 0x20 => some .discStart
  | _ => none

/-- An operand's value in a word. -/
def OperandName.value (n : OperandName) (w : CommandWord) : Nat := w.toNat / 2 ^ n.place % 2 ^ n.width

/-- A word as a statement: by OP, with the fields that OP uses in the order of R141; a reserved OP as `.word` (R142). -/
def disassemble (w : CommandWord) : AsmStatement :=
  match mnemonicOf w.op.toNat with
  | some m => .command m (m.operands.map fun n => (n, n.value w))
  | none => .word w.toNat

/-! ## Text (R140) -/

/-- Blanks between the parts of a line. -/
def isBlank (c : Char) : Bool := c == ' ' || c == '\t' || c == '\r'

/-- A text without blanks at its ends. -/
def trimBlanks (cs : List Char) : List Char := ((cs.dropWhile isBlank).reverse.dropWhile isBlank).reverse

/-- A text cut at every `sep`; always at least one piece. -/
def cutAt (sep : Char) : List Char → List (List Char)
  | [] => [[]]
  | c :: cs =>
    match cutAt sep cs with
    | [] => [[c]]
    | piece :: pieces => if c == sep then [] :: piece :: pieces else (c :: piece) :: pieces

/-- A digit's value, at most 15. -/
def digitValue (c : Char) : Option Nat :=
  if '0' ≤ c ∧ c ≤ '9' then some (c.toNat - '0'.toNat)
  else if 'a' ≤ c ∧ c ≤ 'f' then some (c.toNat - 'a'.toNat + 10)
  else if 'A' ≤ c ∧ c ≤ 'F' then some (c.toNat - 'A'.toNat + 10)
  else none

/-- Digits in a base, most significant first, on top of the value read so far. -/
def readDigits (base acc : Nat) : List Char → Option Nat
  | [] => some acc
  | c :: cs =>
    match digitValue c with
    | some d => if d < base then readDigits base (acc * base + d) cs else none
    | none => none

/-- A value: hexadecimal after `0x`, else decimal (R140). -/
def readValue : List Char → Except AsmError Nat
  | '0' :: 'x' :: d :: ds =>
    match readDigits 16 0 (d :: ds) with
    | some v => .ok v
    | none => .error .badSyntax
  | d :: ds =>
    match readDigits 10 0 (d :: ds) with
    | some v => .ok v
    | none => .error .badSyntax
  | [] => .error .badSyntax

/-- How an operand is written. -/
def OperandName.text : OperandName → List Char
  | .addr => "addr".toList
  | .fc => "fc".toList
  | .start => "start".toList
  | .count => "count".toList
  | .data => "data".toList
  | .framing => "framing".toList
  | .driver => "driver".toList

/-- The operand of a name, case-sensitive (R140). -/
def readOperandName (cs : List Char) : Option OperandName :=
  [.addr, .fc, .start, .count, .data, .framing, .driver].find? fun n => n.text == cs

/-- How a mnemonic is written (R141). -/
def Mnemonic.text : Mnemonic → List Char
  | .nop => "nop".toList
  | .crcInit => "crc.init".toList
  | .crcByte => "crc.byte".toList
  | .build => "build".toList
  | .send => "send".toList
  | .recv => "recv".toList
  | .decode => "decode".toList
  | .read => "read".toList
  | .linkOpen => "link.open".toList
  | .linkConfig => "link.config".toList
  | .linkDiscard => "link.discard".toList
  | .discStart => "disc.start".toList

/-- The mnemonic of a name. -/
def readMnemonic (cs : List Char) : Option Mnemonic :=
  [.nop, .crcInit, .crcByte, .build, .send, .recv, .decode, .read, .linkOpen, .linkConfig, .linkDiscard, .discStart].find?
    fun m => m.text == cs

/-- `name=value` (R140). -/
def readOperand (cs : List Char) : Except AsmError Operand :=
  match cutAt '=' cs with
  | [name, value] =>
    match readOperandName (trimBlanks name), readValue (trimBlanks value) with
    | some n, .ok v => .ok (n, v)
    | none, _ => .error .operandNotListed
    | some _, .error e => .error e
  | _ => .error .badSyntax

/-- The pieces between commas, none for an empty text. -/
def commaPieces (cs : List Char) : List (List Char) :=
  match cs with
  | [] => []
  | _ :: _ => (cutAt ',' cs).map trimBlanks

/-- Read every piece, or give the first error. -/
def readAll {α : Type} (f : List Char → Except AsmError α) : List (List Char) → Except AsmError (List α)
  | [] => .ok []
  | p :: ps =>
    match f p, readAll f ps with
    | .ok x, .ok xs => .ok (x :: xs)
    | .error e, _ => .error e
    | .ok _, .error e => .error e

/-- Apply a constructor to what was read. -/
def build? {α : Type} (r : Except AsmError α) (f : α → AsmStatement) : Except AsmError (Option AsmStatement) :=
  match r with
  | .ok x => .ok (some (f x))
  | .error e => .error e

/-- The statement of a mnemonic's text and its operands' text. -/
def readStatement (name operands : List Char) : Except AsmError (Option AsmStatement) :=
  let named := readAll readOperand (commaPieces operands)
  let values := readAll readValue (commaPieces operands)
  match readMnemonic name with
  | some m => build? named (.command m)
  | none =>
    if name = ".word".toList then build? (readValue operands) .word
    else if name = "crc16".toList then build? values .crc16
    else if name = "crc.check".toList then build? values .crcCheck
    else if name = "probe".toList then build? named .probe
    else if name = "poll.read".toList then build? named .pollRead
    else if name = "req".toList then build? named .req
    else .error .unknownMnemonic

/-- One line: a comment from `;` on is dropped (R140). DESIGN CHOICE (log 13): a line with nothing else, empty or only a comment, holds
no statement; R140 has one command per line and does not mention such lines. -/
def readLine (line : List Char) : Except AsmError (Option AsmStatement) :=
  let code := trimBlanks (line.takeWhile fun c => c != ';')
  match code with
  | [] => .ok none
  | _ :: _ => readStatement (code.takeWhile fun c => !isBlank c) (trimBlanks (code.dropWhile fun c => !isBlank c))

/-- The command words of one line; none for a line without a statement (log 13). -/
def assembleLine (line : List Char) : Except AsmError (List CommandWord) :=
  match readLine line with
  | .ok (some st) => st.assemble
  | .ok none => .ok []
  | .error e => .error e

/-- The command words of lines, in order, or the first error. -/
def assembleLines : List (List Char) → Except AsmError (List CommandWord)
  | [] => .ok []
  | line :: rest =>
    match assembleLine line, assembleLines rest with
    | .ok ws, .ok more => .ok (ws ++ more)
    | .error e, _ => .error e
    | .ok _, .error e => .error e

/-- The command words of a program text (R140): one command per line. -/
def assembleText (text : List Char) : Except AsmError (List CommandWord) := assembleLines (cutAt '\n' text)

/-! ## Printing (R142) -/

/-- A hexadecimal digit; upper case, as the spec prints words. -/
def hexDigit (n : Nat) : Char :=
  if n < 10 then Char.ofNat (n + '0'.toNat) else Char.ofNat (n - 10 + 'A'.toNat)

/-- `digits` hexadecimal digits of a value, the most significant first. -/
def hexDigits : Nat → Nat → List Char
  | 0, _ => []
  | d + 1, v => hexDigits d (v / 16) ++ [hexDigit (v % 16)]

/-- A value as `0x…` with a given number of digits. -/
def printValue (digits v : Nat) : List Char := "0x".toList ++ hexDigits digits v

/-- `name=0x…`, with as many digits as the field needs (R142; log 13). -/
def printOperand (o : Operand) : List Char := o.1.text ++ "=".toList ++ printValue ((o.1.width + 3) / 4) o.2

/-- A mnemonic and its operands' texts. -/
def printParts (name : List Char) (operands : List (List Char)) : List Char :=
  match operands with
  | [] => name
  | _ :: _ => name ++ " ".toList ++ (operands.intersperse ", ".toList).flatten

/-- A statement as text. -/
def AsmStatement.print : AsmStatement → List Char
  | .command m operands => printParts m.text (operands.map printOperand)
  | .word value => printParts ".word".toList [printValue 16 value]
  | .crc16 bytes => printParts "crc16".toList (bytes.map (printValue 2))
  | .crcCheck bytes => printParts "crc.check".toList (bytes.map (printValue 2))
  | .probe operands => printParts "probe".toList (operands.map printOperand)
  | .pollRead operands => printParts "poll.read".toList (operands.map printOperand)
  | .req operands => printParts "req".toList (operands.map printOperand)

/-- The disassembler's line for a word (R142). -/
def disassembleLine (w : CommandWord) : List Char := (disassemble w).print

end Sys2Proof.Machine
end

