-- ==== Sys2Proof/Machine/Readback.lean ====
section
/-! DEFINITION. What the caller can observe of the state: the readback port (10_state R52 to R55), the source's abstract
discovery states (43_discovery R234), and the Measurement Record in exact rationals (41_frame_codec R192). -/

namespace Sys2Proof.Machine

/-! ## Codes -/

/-- The 5-bit code of a control point (R40). -/
def Ctl.code : Ctl → BitVec 5
  | .idle => 0x00
  | .lOpen => 0x01
  | .lConf => 0x02
  | .lDisc => 0x03
  | .sDisc => 0x04
  | .sWrite => 0x05
  | .raDelay => 0x06
  | .raAvail => 0x07
  | .rbRead => 0x08
  | .rcDelay => 0x09
  | .rcAvail => 0x0A
  | .rdRead => 0x0B
  | .qOpen => 0x0C
  | .qConf => 0x0D
  | .qSdisc => 0x0E
  | .qWrite => 0x0F
  | .qDelay => 0x10
  | .qAvail => 0x11
  | .qFdisc => 0x12
  | .qExh => 0x13
  | .pDelay => 0x14
  | .fatal => 0x15

/-- The STATUS bit of the mode: 0 = CMD, 1 = SEQ (R53). -/
def Mode.bit : Mode → Bool
  | .cmd => false
  | .seq => true

/-- The 4-bit number of a result code (R125). -/
def ResultCode.code : ResultCode → BitVec 4
  | .ok => 0
  | .linkOpenFailure => 1
  | .noResponse => 2
  | .deviceException => 3
  | .partialFrame => 4
  | .checksumError => 5
  | .configurationExhausted => 6
  | .transportFailure => 7
  | .cmdRefused => 8
  | .none => 15

/-! ## The readback port (R52) -/

/-- Word 0x00, STATUS (R53): from the top, 17 zeros, CFG_VALID, M_VALID, RX_OK, TX_VALID, LINK_OPEN, RES_KIND, MODE, CTL. -/
def State.statusWord (s : State) : Word :=
  0#17 ++ BitVec.ofBool s.cfg.valid ++ BitVec.ofBool s.dec.mValid ++ BitVec.ofBool s.rx.rxOk ++
    BitVec.ofBool s.enc.txValid ++ BitVec.ofBool s.linkOpen ++ s.res.kind.code ++ BitVec.ofBool s.mode.bit ++ s.ctl.code

/-- Words 0x10 + i and 0x20 + j, the two buffers (R55); every index not listed reads 0 (R52, U21). -/
def State.bufferWord (s : State) (index : Nat) : Word :=
  if 0x10 ≤ index then
    match s.enc.txbuf[index - 0x10]? with
    | some b => b.setWidth 32
    | none =>
      if 0x20 ≤ index then
        match s.rx.rxbuf[index - 0x20]? with
        | some b => b.setWidth 32
        | none => 0
      else 0
  else 0

/-- The word the readback port returns for an index (R52 to R55). A function of the state: a read has no side effect. -/
def State.readback (s : State) (index : Byte) : Word :=
  match index.toNat with
  | 0x00 => s.statusWord
  | 0x01 => 0#16 ++ s.res.b ++ s.res.a
  | 0x02 => 0#16 ++ s.crc
  | 0x03 => s.cfg.idx ++ s.cfg.a ++ 0#3 ++ BitVec.ofBool s.cfg.d ++ s.cfg.f
  | 0x04 => BitVec.ofNat 16 (min s.k 0xFFFF) ++ s.ci
  | 0x05 => 0#8 ++ s.rx.rxN ++ s.rx.rxWant ++ s.rx.rxLen
  | 0x06 => BitVec.ofNat 32 (min s.avail 0xFFFFFFFF)
  | 0x07 => 0#16 ++ s.dec.record.voltage
  | 0x08 => 0#16 ++ s.dec.record.current
  | 0x09 => s.dec.record.power
  | 0x0A => s.dec.record.energy
  | 0x0B => s.cur.extractLsb' 0 32
  | 0x0C => s.cur.extractLsb' 32 32
  | n => s.bufferWord n

/-! ## The source's discovery states (R234) -/

/-- The states of the source's one-line state machine (R230), with "none" for FATAL and for a command's sites, to which the
table gives no source state. -/
inductive SourceState where
  | idle
  | probing (c : Candidate)
  | found (cfg : ConfigReg)
  | exhausted
  | none
deriving DecidableEq, Repr

/-- Found is a row for mode = SEQ only; a command runs the shared sites with mode = CMD (R41). -/
def State.pollingState (s : State) : SourceState :=
  match s.mode with
  | .cmd => .none
  | .seq => .found s.cfg

/-- Probing(cand(ci)). -/
def State.probingState (s : State) : SourceState :=
  match s.candidate with
  | some c => .probing c
  | none => .none

/-- state_of(st) (R234). -/
def State.stateOf (s : State) : SourceState :=
  match s.ctl with
  | .idle => .idle
  | .qOpen => .idle
  | .qConf => s.probingState
  | .qSdisc => s.probingState
  | .qWrite => s.probingState
  | .qDelay => s.probingState
  | .qAvail => s.probingState
  | .qFdisc => .found s.cfg
  | .qExh => .exhausted
  | .sDisc => s.pollingState
  | .sWrite => s.pollingState
  | .raDelay => s.pollingState
  | .raAvail => s.pollingState
  | .rbRead => s.pollingState
  | .rcDelay => s.pollingState
  | .rcAvail => s.pollingState
  | .rdRead => s.pollingState
  | .pDelay => s.pollingState
  | .lOpen => .none
  | .lConf => .none
  | .lDisc => .none
  | .fatal => .none

/-! ## The Measurement Record (R192) -/

/-- The record's values, exact; it carries no unit (R192, D45). -/
structure Record where
  voltage : Rat
  current : Rat
  power : Rat
  energy : Rat
deriving DecidableEq, Repr

/-- voltage and current in hundredths, power in tenths, energy in whole units; no rounding, no sign (R192, R193). -/
def Measurement.toRecord (m : Measurement) : Record where
  voltage := (m.voltage.toNat : Rat) / 100
  current := (m.current.toNat : Rat) / 100
  power := (m.power.toNat : Rat) / 10
  energy := m.energy.toNat

end Sys2Proof.Machine
end

