-- ==== Sys2Proof/Machine/Transport.lean ====
section
/-! DEFINITION. The host Transport as a contract (20_memory R73, R75, R80 to R84, R90, R94, 42_link R213 to R218): what an answer may be and what
it does to the host's own buffers. None of this is engine state (10_state R48) and `step` does not read it: the engine
takes any answer of the right type (R92). It says which answer sequences a host that keeps its duties can give. -/

namespace Sys2Proof.Machine

/-- The host's side of the link: whether it is open, the line settings last applied, the output stream and the two buffers
(R48, R73, R75, R84). -/
structure Transport where
  isOpen : Bool
  applied : Option (Framing × Bool × Byte)
  /-- The output stream: the bytes the engine wrote, in order (R73, R90). Nothing takes a byte off it. -/
  written : List Byte
  /-- The output buffer: written bytes not yet transmitted, oldest first (R84, R215). -/
  output : List Byte
  /-- The input buffer: bytes that have arrived and are not yet read, oldest first (R75). -/
  input : List Byte
deriving DecidableEq, Repr

/-- `Serves t x a u`: in host state `t`, transaction `x` may be answered `a`, which leaves `u` (the duties of R90). Only Configure
applies line settings (R81), and the output stream gains only bytes of the write (R73). What an Err leaves open is log 9; that an Ok
write fills the output buffer and no transaction but a discard or an Ok configure empties it is log 17. -/
def Transport.Serves (t : Transport) : Transaction → Answer → Transport → Prop
  | .openLink _, .status .ok, u => u = { t with isOpen := true }
  | .openLink _, .status .err, u => u = t
  | .configure f d a, .status .ok, u => u = ⟨true, some (f, d, a), t.written, [], []⟩
  | .configure _ _ _, .status .err, u =>
    u.written = t.written ∧ u.output.Sublist t.output ∧ u.input.Sublist t.input
  | .write bs, .status .ok, u => u = { t with written := t.written ++ bs.toList, output := t.output ++ bs.toList }
  | .write bs, .status .err, u =>
    u.applied = t.applied ∧ u.input = t.input ∧
      ∃ sent, sent.Sublist bs.toList ∧ u.written = t.written ++ sent ∧ u.output.Sublist (t.output ++ sent)
  | .bytesAvailable, .count _, u => u = t
  | .read m, .bytes r, u => r.length ≤ m ∧ t.input = r ++ u.input ∧ u = { t with input := u.input }
  | .discardBuffers, .done, u => u = { t with output := [], input := [] }
  | .delay _, .done, u => u = t
  | _, _, _ => False

/-- What happens on the host's side, in any order: bytes arrive from the line (R92), bytes are transmitted (DESIGN CHOICE, log 17:
the spec does not say when), or a transaction is served. -/
inductive HostEvent where
  | arrive (bytes : List Byte)
  /-- The `n` oldest bytes leave the output buffer for the line. -/
  | transmit (n : Nat)
  | serve (x : Transaction) (a : Answer)
deriving DecidableEq, Repr

/-- One event of the host. Transmitting takes bytes off the output buffer and changes nothing else, whenever it happens (log 17). -/
def Transport.Does (t : Transport) : HostEvent → Transport → Prop
  | .arrive bs, u => u = { t with input := t.input ++ bs }
  | .transmit n, u => n ≤ t.output.length ∧ u = { t with output := t.output.drop n }
  | .serve x a, u => t.Serves x a u

/-- A run of the host. -/
def Transport.Runs (t : Transport) : List HostEvent → Transport → Prop
  | [], u => u = t
  | e :: es, u => ∃ v, t.Does e v ∧ Transport.Runs v es u

/-- The bytes the engine gave to write in a run, in order, whatever was answered (R82). -/
def bytesGiven : List HostEvent → List Byte
  | [] => []
  | .serve (.write bs) _ :: es => bs.toList ++ bytesGiven es
  | _ :: es => bytesGiven es

/-- The bytes that arrived in a run, in order. -/
def arrivals : List HostEvent → List Byte
  | [] => []
  | .arrive bs :: es => bs ++ arrivals es
  | .transmit _ :: es => arrivals es
  | .serve _ _ :: es => arrivals es

/-- The bytes the reads of a run returned, in order (R73). -/
def bytesRead : List HostEvent → List Byte
  | [] => []
  | .serve (.read _) (.bytes r) :: es => r ++ bytesRead es
  | _ :: es => bytesRead es

end Sys2Proof.Machine
end

