-- ==== Sys2Proof/Safety.lean ====
section
/-! DEFINITION. What holds in every state a run reaches, and the vocabulary the statements use for runs: which control points
belong to probing, receiving and polling, and which answers make a probe fail. -/

namespace Sys2Proof.Machine

/-! ## Groups of control points -/

/-- The sites of a request write shared by SEND, READ and the polling read (R219). -/
abbrev Ctl.Sending (c : Ctl) : Prop := c ∈ [Ctl.sDisc, Ctl.sWrite]

/-- The sites of a reception, RA_DELAY to RD_READ (R183 to R186). -/
abbrev Ctl.Receiving (c : Ctl) : Prop := c ∈ [Ctl.raDelay, Ctl.raAvail, Ctl.rbRead, Ctl.rcDelay, Ctl.rcAvail, Ctl.rdRead]

/-- Probing of a candidate (R234). -/
abbrev Ctl.Probing (c : Ctl) : Prop := c ∈ [Ctl.qConf, Ctl.qSdisc, Ctl.qWrite, Ctl.qDelay, Ctl.qAvail]

/-- The control points of the polling loop, from Found on (R234, with mode = SEQ). -/
abbrev Ctl.Polling (c : Ctl) : Prop := c.Sending ∨ c.Receiving ∨ c ∈ [Ctl.qFdisc, Ctl.pDelay]

/-! ## The invariant -/

/-- The receiver's lengths (R36 to R38): nothing received since reset, or rx_n in 1..8, rx_want = 5 + 2·rx_n, rx_len ≤ rx_want. -/
abbrev State.LengthsInv (s : State) : Prop :=
  (s.rx.rxN = 0 ∧ s.rx.rxWant = 0 ∧ s.rx.rxLen = 0 ∧ s.rx.rxOk = false) ∨
  (1 ≤ s.rx.rxN.toNat ∧ s.rx.rxN.toNat ≤ 8 ∧ s.rx.rxWant.toNat = 5 + 2 * s.rx.rxN.toNat ∧
    s.rx.rxLen.toNat ≤ s.rx.rxWant.toNat)

/-- rx_ok marks a whole frame with a valid trailer (R39). -/
abbrev State.FrameInv (s : State) : Prop := s.rx.rxOk = true → s.rx.rxLen = s.rx.rxWant ∧ frameValid s.frame = true

/-- m_valid marks the record of the validated frame in rxbuf (R45, R314, R315). -/
abbrev State.RecordInv (s : State) : Prop :=
  s.dec.mValid = true → s.rx.rxOk = true ∧ 6 ≤ s.rx.rxN.toNat ∧ s.dec.record = decodeRecord s.rx.rxbuf

/-- tx_valid marks a complete frame with a valid trailer (R33, R34, R173). -/
abbrev State.RequestInv (s : State) : Prop := s.enc.txValid = true → frameValid s.enc.txbuf.toList = true

/-- The payload of a result by its code; CONFIGURATION_EXHAUSTED is never a result (R44, R125). -/
abbrev State.ResultInv (s : State) : Prop :=
  s.res.kind ≠ .configurationExhausted ∧
  (s.res.kind ≠ .partialFrame → s.res.b = 0) ∧
  (s.res.kind ≠ .partialFrame → s.res.kind ≠ .deviceException → s.res.a = 0) ∧
  (s.res.kind = .partialFrame → s.res.a.toNat < s.res.b.toNat)

/-- The Configuration register holds a candidate, the one its index names (R241, R252). -/
abbrev State.FoundInv (s : State) : Prop :=
  s.cfg.valid = true ∧
  (Sys2Proof.Machine.candidate s.params s.cfg.idx.toNat).map (fun c => (c.f, c.driver, c.address)) = some (s.cfg.f, s.cfg.d, s.cfg.a)

/-- Who may be at a shared site: SEND or READ with operation `ops`, or the polling loop (R41, R219). -/
abbrev State.SharedBy (s : State) (ops : List Byte) : Prop :=
  (s.mode = .cmd ∧ s.cur.op ∈ ops) ∨ (s.mode = .seq ∧ s.cur.op = 0x20 ∧ s.FoundInv)

/-- IDLE and the sites of the link commands belong to the command in `cur` (R41, R212, R214, R217). -/
abbrev State.CommandInv (s : State) : Prop :=
  (s.ctl = .idle → s.mode = .cmd) ∧
  (s.ctl = .lOpen → s.mode = .cmd ∧ s.cur.op = 0x18 ∧ s.linkOpen = false) ∧
  (s.ctl = .lConf → s.mode = .cmd ∧ s.cur.op = 0x19 ∧ s.linkOpen = true ∧ s.cur.framing.toNat < s.params.nf) ∧
  (s.ctl = .lDisc → s.mode = .cmd ∧ s.cur.op = 0x1A ∧ s.linkOpen = true)

/-- The shared sites are reached with an open link, a built frame, and a user that knows how to go on (R41, R219 to R221). -/
abbrev State.SharedInv (s : State) : Prop :=
  (s.ctl.Sending → s.linkOpen = true ∧ s.enc.txValid = true ∧ s.SharedBy [0x11, 0x14] ∧
    (s.mode = .cmd → s.cur.op = 0x14 → countOk s.cur.count = true)) ∧
  (s.ctl.Receiving → s.linkOpen = true ∧ 1 ≤ s.rx.rxN.toNat ∧ s.rx.rxOk = false ∧ s.SharedBy [0x12, 0x14] ∧
    (s.mode = .seq → s.rx.rxN = 8))

/-- The phases of a reception: what has been read, and the wait counter within its budget (R183 to R186). -/
abbrev State.PhaseInv (s : State) : Prop :=
  (s.ctl = .raDelay → s.rx.rxLen = 0 ∧ s.k < s.params.wait1Iters) ∧
  (s.ctl = .raAvail → s.rx.rxLen = 0 ∧ 1 ≤ s.k ∧ s.k ≤ s.params.wait1Iters) ∧
  (s.ctl = .rbRead → s.rx.rxLen.toNat < 5) ∧
  (s.ctl = .rcDelay → (s.rx.rxLen = 0 ∨ s.rx.rxLen = 5) ∧ s.k < s.params.wait2Iters ∧
    s.rx.rxLen.toNat + s.avail < s.rx.rxWant.toNat) ∧
  (s.ctl = .rcAvail → (s.rx.rxLen = 0 ∨ s.rx.rxLen = 5) ∧ 1 ≤ s.k ∧ s.k ≤ s.params.wait2Iters) ∧
  (s.ctl = .rdRead → s.rx.rxLen.toNat < s.rx.rxWant.toNat)

/-- The sequencer's control points belong to DISC_START; only before the first probe is the link closed (R235 to R247, R251). -/
abbrev State.SequencerInv (s : State) : Prop :=
  (s.ctl = .qOpen ∨ s.ctl = .fatal → s.mode = .seq ∧ s.cur.op = 0x20 ∧ s.linkOpen = false) ∧
  (s.ctl.Probing ∨ s.ctl = .qExh → s.mode = .seq ∧ s.cur.op = 0x20 ∧ s.linkOpen = true) ∧
  (s.ctl = .qSdisc ∨ s.ctl = .qWrite → s.enc.txValid = true) ∧
  (s.ctl = .qDelay → s.k < s.params.probeIters) ∧
  (s.ctl = .qAvail → 1 ≤ s.k ∧ s.k ≤ s.params.probeIters) ∧
  (s.ctl = .qFdisc ∨ s.ctl = .pDelay → s.mode = .seq ∧ s.cur.op = 0x20 ∧ s.linkOpen = true ∧ s.FoundInv)

/-- The invariant of the machine: valid parameters (R304), ci in range (R43), and the clauses above. -/
abbrev State.Inv (s : State) : Prop :=
  s.params.Valid ∧ s.ci.toNat < s.params.size ∧ s.LengthsInv ∧ s.FrameInv ∧ s.RecordInv ∧ s.RequestInv ∧ s.ResultInv ∧
    s.CommandInv ∧ s.SharedInv ∧ s.PhaseInv ∧ s.SequencerInv

/-! ## Probes that fail (R248) -/

/-- The answers of a discard before a write, when there is one (R238). -/
def discardAnswers (p : Params) : List Event := if p.discardBeforeSend then [.answer .done] else []

/-- The answers of a probe's availability polls (R239). -/
def pollAnswers (counts : List Nat) : List Event := (counts.map fun n => [Event.answer .done, .answer (.count n)]).flatten

/-- The answers a failing probe gets: configure fails, or the write fails, or every one of PROBE_ITERS counts is below
PROBE_MIN_BYTES (R248). -/
inductive FailedProbe where
  | configureErr
  | writeErr
  | tooFew (counts : List Nat)
deriving DecidableEq, Repr

/-- The events of a failing probe, in order (R249). -/
def FailedProbe.events (p : Params) : FailedProbe → List Event
  | .configureErr => [.answer (.status .err)]
  | .writeErr => .answer (.status .ok) :: discardAnswers p ++ [.answer (.status .err)]
  | .tooFew counts => .answer (.status .ok) :: discardAnswers p ++ [.answer (.status .ok)] ++ pollAnswers counts

/-- A failing probe's counts are PROBE_ITERS many, each too small (R239). -/
def FailedProbe.Fails (p : Params) : FailedProbe → Prop
  | .configureErr => True
  | .writeErr => True
  | .tooFew counts => counts.length = p.probeIters ∧ ∀ n ∈ counts, n < p.probeMinBytes

/-- Is it a Configure transaction? -/
def Transaction.isConfigure : Transaction → Bool
  | .configure _ _ _ => true
  | .openLink _ => false
  | .write _ => false
  | .bytesAvailable => false
  | .read _ => false
  | .discardBuffers => false
  | .delay _ => false

/-- The Configure transactions of one sweep: cand(0), …, cand(N−1) in order (R232, R248). -/
def sweep (p : Params) : List Transaction :=
  (List.range p.size).filterMap fun i => (candidate p i).map fun c => .configure c.framing c.driver c.address

end Sys2Proof.Machine
end

