-- ==== Sys2Proof/Certificates/Slice0/Obligations.lean ====
section
/-! DEFINITION. The statements of this row, from the spec's numbered rules. Each result is written out field by field, so a next state
named in a conclusion is also the frame: what is not listed is as before, the model's own `params`, `inputs` and
`transactions` included. Where a statement runs `step`, words, answers and resets come from the model's own event list (log 1) and
issued transactions go to the model's own history (log 3): those two are the model's choice, and the docstring says so. -/

namespace Sys2Proof.Claims

open Sys2Proof.Machine

/-- The OP values of R114. -/
def assignedOps : List Byte := [0x00, 0x01, 0x02, 0x10, 0x11, 0x12, 0x13, 0x14, 0x18, 0x19, 0x1A, 0x20]

/-- What acceptance wrote: cur and mode (R110). -/
def accepted (s : State) (w : CommandWord) : State := { s with cur := w, mode := .cmd }

/-- A command's completion: result registers, one CMD_DONE, IDLE; nothing else (R17, R280). -/
def completed (s : State) (op : Byte) (kind : ResultCode) (a b : Byte) : State :=
  { s with res := ⟨kind, a, b⟩, reports := s.reports ++ [.cmdDone op kind a b], ctl := .idle }

/-- The next event taken from store, and one transaction issued (R18). -/
def served (s : State) (rest : List Event) (x : Transaction) : State :=
  { s with inputs := rest, transactions := s.transactions ++ [x] }

/-- The refusal of a word presented while the engine is busy: result registers and one report (R111). -/
def refusedBusy (s : State) (op : Byte) : State :=
  { s with res := ⟨.cmdRefused, 0, 0⟩, reports := s.reports ++ [.cmdDone op .cmdRefused 0 0] }

/-- The send sites' first control point (R220). -/
def firstSend (p : Params) (discard write : Ctl) : Ctl := if p.discardBeforeSend then discard else write

/-- A reception of n registers begun, element by element (R182). -/
def begun (s : State) (n : Nat) : State :=
  { s with
    rx := { s.rx with rxN := BitVec.ofNat 8 n, rxWant := BitVec.ofNat 8 (5 + 2 * n), rxLen := 0, rxOk := false }
    dec := { s.dec with mValid := false }
    avail := 0
    k := 0
    ctl := .raDelay }

/-- The codes of the control points, as the table of R40 numbers them. -/
def ctlCodes : List (Ctl × Nat) :=
  [(.idle, 0x00), (.lOpen, 0x01), (.lConf, 0x02), (.lDisc, 0x03), (.sDisc, 0x04), (.sWrite, 0x05), (.raDelay, 0x06),
   (.raAvail, 0x07), (.rbRead, 0x08), (.rcDelay, 0x09), (.rcAvail, 0x0A), (.rdRead, 0x0B), (.qOpen, 0x0C), (.qConf, 0x0D),
   (.qSdisc, 0x0E), (.qWrite, 0x0F), (.qDelay, 0x10), (.qAvail, 0x11), (.qFdisc, 0x12), (.qExh, 0x13), (.pDelay, 0x14),
   (.fatal, 0x15)]

/-- The numbers of the result codes, as the table of R125 gives them. -/
def resultCodes : List (ResultCode × Nat) :=
  [(.ok, 0), (.linkOpenFailure, 1), (.noResponse, 2), (.deviceException, 3), (.partialFrame, 4), (.checksumError, 5),
   (.configurationExhausted, 6), (.transportFailure, 7), (.cmdRefused, 8), (.none, 15)]

/-- The line a command is listed as: its mnemonic and the operands it uses, in the order of R141 (R142). -/
def listing : Instr → AsmStatement
  | .nop _ => .command .nop []
  | .crcInit _ => .command .crcInit []
  | .crcByte _ data => .command .crcByte [(.data, data.toNat)]
  | .build addr fc start count _ =>
    .command .build [(.addr, addr.toNat), (.fc, fc.toNat), (.start, start.toNat), (.count, count.toNat)]
  | .send _ => .command .send []
  | .receive _ count _ => .command .recv [(.count, count.toNat)]
  | .decode _ => .command .decode []
  | .read addr _ start count _ => .command .read [(.addr, addr.toNat), (.start, start.toNat), (.count, count.toNat)]
  | .linkOpen _ => .command .linkOpen []
  | .linkConfig addr _ _ driver framing =>
    .command .linkConfig [(.addr, addr.toNat), (.framing, framing.toNat), (.driver, driver.toNat)]
  | .linkDiscard _ => .command .linkDiscard []
  | .discStart _ => .command .discStart []

/-- An instruction with its ignored bits cleared (R113, R114 "fields used"). -/
def usedOnly : Instr → Instr
  | .nop _ => .nop 0
  | .crcInit _ => .crcInit 0
  | .crcByte _ data => .crcByte 0 data
  | .build addr fc start count _ => .build addr fc start count 0
  | .send _ => .send 0
  | .receive _ count _ => .receive 0 count 0
  | .decode _ => .decode 0
  | .read addr _ start count _ => .read addr 0 start count 0
  | .linkOpen _ => .linkOpen 0
  | .linkConfig addr _ _ driver framing => .linkConfig addr 0 0 driver framing
  | .linkDiscard _ => .linkDiscard 0
  | .discStart _ => .discStart 0

/-- Two outcomes alike but for the latched word: the next states differ at most in `cur`, which is the same or is still `v` in one
and `w` in the other; a stop is the same stop. -/
def alike (v w : CommandWord) : Host.Outcome State Fault Refusal → Host.Outcome State Fault Refusal → Prop
  | .next t, .next u => { u with cur := t.cur } = t ∧ (u.cur = t.cur ∨ (t.cur = v ∧ u.cur = w))
  | .fault f, .fault g => f = g
  | .refused f, .refused g => f = g
  | _, _ => False

/-! ### The assembly language as R140 to R142 write it -/

/-- The table of R141: how a mnemonic is spelled, its OP and the operands it lists, in order. -/
def commandRow : Mnemonic → String × Nat × List OperandName
  | .nop => ("nop", 0x00, [])
  | .crcInit => ("crc.init", 0x01, [])
  | .crcByte => ("crc.byte", 0x02, [.data])
  | .build => ("build", 0x10, [.addr, .fc, .start, .count])
  | .send => ("send", 0x11, [])
  | .recv => ("recv", 0x12, [.count])
  | .decode => ("decode", 0x13, [])
  | .read => ("read", 0x14, [.addr, .start, .count])
  | .linkOpen => ("link.open", 0x18, [])
  | .linkConfig => ("link.config", 0x19, [.addr, .framing, .driver])
  | .linkDiscard => ("link.discard", 0x1A, [])
  | .discStart => ("disc.start", 0x20, [])

/-- How an operand is spelled (R141), and the place and the width of its field (R112, R116). -/
def operandRow : OperandName → String × Nat × Nat
  | .addr => ("addr", 48, 8)
  | .fc => ("fc", 40, 8)
  | .start => ("start", 24, 16)
  | .count => ("count", 8, 16)
  | .data => ("data", 0, 8)
  | .framing => ("framing", 0, 4)
  | .driver => ("driver", 4, 1)

/-- A digit as a character. -/
def digitText (d : Nat) : Char := "0123456789ABCDEF".toList.getD d '0'

/-- `n` hexadecimal digits of a value, the most significant first. -/
def hexText (n v : Nat) : List Char := (List.range n).reverse.map fun k => digitText (v / 16 ^ k % 16)

/-- A value as a line writes it: decimal digits, or `0x` and hexadecimal digits (R140). -/
inductive Numeral where
  | decimal (digits : List (Fin 10))
  | hexadecimal (digits : List (Fin 16))
deriving DecidableEq, Repr

/-- Its characters. -/
def Numeral.text : Numeral → List Char
  | .decimal ds => ds.map fun d => digitText d.val
  | .hexadecimal ds => "0x".toList ++ ds.map fun d => digitText d.val

/-- Its value. -/
def Numeral.value : Numeral → Nat
  | .decimal ds => ds.foldl (fun v d => v * 10 + d.val) 0
  | .hexadecimal ds => ds.foldl (fun v d => v * 16 + d.val) 0

/-- It has at least one digit. -/
def Numeral.HasDigits : Numeral → Prop
  | .decimal ds => ds ≠ []
  | .hexadecimal ds => ds ≠ []

/-- `name=value` (R140). -/
def operandText (n : OperandName) (value : List Char) : List Char := (operandRow n).1.toList ++ "=".toList ++ value

/-- A command's line: the mnemonic, then the operands between separators (R140). -/
def commandText (m : Mnemonic) (sep : String) (operands : List (List Char)) : List Char :=
  (commandRow m).1.toList ++ (if operands = [] then [] else " ".toList ++ (operands.intersperse sep.toList).flatten)

/-- The line of a command with these operands. -/
def sourceLine (m : Mnemonic) (sep : String) (operands : List (OperandName × Numeral)) : List Char :=
  commandText m sep (operands.map fun o => operandText o.1 o.2.text)

end Sys2Proof.Claims

open Sys2Proof Sys2Proof.Machine Sys2Proof.Claims

/-! ## Reset (R60, R300) -/

/-- 10_state R60: the reset value of every element, whatever the parameters; `State.reset` is such a state. -/
def Obligations.ResetHasTableValues : Prop :=
  (∀ p : Params,
    let s := State.resetWith p
    s.crc = 0xFFFF ∧ s.enc.txbuf.toList = List.replicate 8 0x00 ∧ s.enc.txValid = false ∧
    s.rx.rxbuf.toList = List.replicate 21 0x00 ∧ s.rx.rxLen = 0 ∧ s.rx.rxWant = 0 ∧ s.rx.rxN = 0 ∧ s.rx.rxOk = false ∧
    s.avail = 0 ∧ s.k = 0 ∧
    s.dec.record.voltage = 0 ∧ s.dec.record.current = 0 ∧ s.dec.record.power = 0 ∧ s.dec.record.energy = 0 ∧
    s.dec.mValid = false ∧
    s.cfg.f = 0 ∧ s.cfg.a = 0 ∧ s.cfg.idx = 0 ∧ s.cfg.d = false ∧ s.cfg.valid = false ∧
    s.linkOpen = false ∧ s.ci = 0 ∧ s.ctl = .idle ∧ s.mode = .cmd ∧ s.cur = 0x0000000000000000 ∧
    s.res.kind = .none ∧ s.res.kind.code = 15 ∧ s.res.a = 0 ∧ s.res.b = 0 ∧ s.reports = []) ∧
  ∃ p : Params, State.reset = State.resetWith p

/-- 70_reset R300: the reset event, in any state whatever, is one step to the reset values; it emits no report and issues no
transaction (the port's history is unchanged).
Events and history are the model's (log 1, log 3). -/
def Obligations.ResetEventRestoresTable : Prop :=
  ∀ (s : State) (rest : List Event), s.inputs = .reset :: rest →
    step s = .next { State.resetWith s.params with inputs := rest, transactions := s.transactions }

/-! ## Encoding and dispatch -/

/-- 30_encoding R110: a presented word that decodes to an instruction runs that instruction, in the same step; the step adds
nothing but taking the word from the command port. Every other word is handled by `State.present` too.
Events and history are the model's (log 1, log 3). -/
def Obligations.StepRunsDecodedInstruction : Prop :=
  (∀ (s : State) (w : CommandWord) (rest : List Event) (i : Instr),
    s.inputs = .present w :: rest → decode w = .ok i → step s = exec i { s with inputs := rest }) ∧
  (∀ (s : State) (w : CommandWord) (rest : List Event),
    s.inputs = .present w :: rest → step s = State.present { s with inputs := rest } w)

/-- 30_encoding R115: a reserved OP presented at IDLE is refused with CMD_REFUSED; only cur and mode are written besides the result
and the report, and no transaction is raised. -/
def Obligations.ReservedOpIsRefused : Prop :=
  (∀ (s : State) (w : CommandWord), w.op ∉ assignedOps → s.ctl = .idle →
    s.present w = .next (completed (accepted s w) w.op .cmdRefused 0 0)) ∧
  (List.range 256).countP (fun n => !assignedOps.contains (BitVec.ofNat 8 n)) = 244

/-- 30_encoding R111: while ctl ≠ IDLE, a NOP word has no effect, and every other word, reserved OPs included, is refused with
nothing but the result registers and one report changed. -/
def Obligations.BusyWordIsRefused : Prop :=
  ∀ (s : State) (w : CommandWord), s.ctl ≠ .idle → s.present w = .next (if w.op = 0x00 then s else refusedBusy s w.op)

/-- 30_encoding R112: the six fields of a command word, and the word as their sum. -/
def Obligations.WordIsSumOfFields : Prop :=
  ∀ w : CommandWord,
    w.toNat = w.op.toNat * 2 ^ 56 + w.addr.toNat * 2 ^ 48 + w.fc.toNat * 2 ^ 40 + w.start.toNat * 2 ^ 24 +
      w.count.toNat * 2 ^ 8 + w.data.toNat

/-- 95_test_vectors sections 2.1 to 2.7, P1 and P5, with 30_encoding R114 to R116: command words written out in the spec decode to
the commands they stand for, and one with a reserved OP decodes to none. That an instruction carries its ignored bits is the
model's choice (log 8), and so is that a reserved OP is no instruction (log 10). -/
def Obligations.SpecWordsDecode : Prop :=
  decode 0x0000000000000000 = .ok (.nop 0) ∧
  decode 0x0100000000000000 = .ok (.crcInit 0) ∧
  decode 0x02000000000000F9 = .ok (.crcByte 0 0xF9) ∧
  decode 0x10FFFF1234000500 = .ok (.build 0xFF 0xFF 0x1234 5 0) ∧
  decode 0x1200000000010100 = .ok (.receive 0 0x0101 0) ∧
  decode 0x14010400000008FF = .ok (.read 0x01 0x04 0x0000 8 0xFF) ∧
  decode 0x19010000000000F1 = .ok (.linkConfig 0x01 0 0b111 true 1) ∧
  decode 0x2000000000000000 = .ok (.discStart 0) ∧
  decode 0x7700000000000000 = .error (.reservedOp 0x77)

/-- Decoding and encoding agree on every instruction and every word; a word is no instruction exactly when its OP is reserved.
That an instruction keeps its ignored bits, so that its word comes back whole, is the model's choice (log 8), and so is that a
reserved OP is no instruction (log 10). -/
def Obligations.DecodeEncodeAgree : Prop :=
  (∀ i : Instr, decode (encode i) = .ok i) ∧
  (∀ (w : CommandWord) (i : Instr), decode w = .ok i → encode i = w) ∧
  (∀ w : CommandWord, (∃ i, decode w = .ok i) ↔ w.op ∈ assignedOps)

/-- 30_encoding R113: two commands that differ only in ignored fields do the same, but for the word latched in cur: in the step
that accepts them, and, in every state that meets the invariant, in every later step that finds one or the other in cur.
Events and history are the model's (log 1, log 3). -/
def Obligations.IgnoredFieldsHaveNoEffect : Prop :=
  (∀ (i j : Instr) (s : State), usedOnly i = usedOnly j →
    ∃ t u, exec i s = .next t ∧ exec j s = .next u ∧ { u with cur := t.cur } = t) ∧
  (∀ (i j : Instr) (s : State), usedOnly i = usedOnly j → s.Inv → s.cur = encode i →
    alike (encode i) (encode j) (step s) (step { s with cur := encode j }))

/-- 42_link R210: every word with OP = 0x00 is a NOP, and a NOP changes nothing, at any control point. -/
def Obligations.NopChangesNothing : Prop :=
  (∀ w : CommandWord, w.op = 0x00 → decode w = .ok (.nop (w.extractLsb' 0 56))) ∧
  (∀ (ign : BitVec 56) (s : State), exec (.nop ign) s = .next s)

/-! ## The CRC unit (40_crc) -/

/-- 40_crc R157: CRC_INIT sets the accumulator and completes OK; busy, it is refused. -/
def Obligations.CrcInitSetsAllOnes : Prop :=
  encode (.crcInit 0) = 0x0100000000000000 ∧
  (∀ (ign : BitVec 56) (s : State), s.ctl = .idle →
    exec (.crcInit ign) s =
      .next (completed { accepted s (encode (.crcInit ign)) with crc := 0xFFFF } 0x01 .ok 0 0)) ∧
  (∀ (ign : BitVec 56) (s : State), s.ctl ≠ .idle → exec (.crcInit ign) s = .next (refusedBusy s 0x01))

/-- 40_crc R150 to R152, R154 and R158: the CRC function written out, with its check value; CRC_BYTE folds one byte; CRC_INIT and
then one CRC_BYTE per byte leave crc = crc16 of the bytes (the words are presented through the event list, log 1).
The polynomial, the order of test and shift, and the check value are marked in the spec as general knowledge (D8). -/
def Obligations.CrcBytesComputeCrc16 : Prop :=
  (∀ c : Half, crcBit c = if c.getLsbD 0 then (c >>> 1) ^^^ 0xA001 else c >>> 1) ∧
  (∀ (c : Half) (b : Byte),
    crcStep c b = crcBit (crcBit (crcBit (crcBit (crcBit (crcBit (crcBit (crcBit (c ^^^ b.setWidth 16))))))))) ∧
  (∀ bytes : List Byte, crc16 bytes = bytes.foldl crcStep 0xFFFF) ∧
  crc16 [0x31, 0x32, 0x33, 0x34, 0x35, 0x36, 0x37, 0x38, 0x39] = 0x4B37 ∧
  (∀ (ign : BitVec 48) (data : Byte) (s : State), s.ctl = .idle →
    exec (.crcByte ign data) s =
      .next (completed { accepted s (encode (.crcByte ign data)) with crc := crcStep s.crc data } 0x02 .ok 0 0)) ∧
  (∀ (bytes : List Byte) (rest : List Event) (s : State), s.ctl = .idle →
    s.inputs = (.present (encode (.crcInit 0)) :: bytes.map fun b => .present (encode (.crcByte 0 b))) ++ rest →
      ∃ t, Host.Core.run core (1 + bytes.length) s = .next t ∧ t.crc = crc16 bytes ∧ t.inputs = rest ∧ t.ctl = .idle)

/-- 40_crc R155: the empty sequence, streaming, and a step that can be undone.
The spec marks R155 as derived from R150 and R151. -/
def Obligations.CrcStreamsAndInverts : Prop :=
  crc16 [] = 0xFFFF ∧
  (∀ a b : List Byte, crc16 (a ++ b) = b.foldl crcStep (crc16 a)) ∧
  (∀ b : Byte, Function.Bijective fun c => crcStep c b)

/-- 40_crc R156: a sequence followed by its CRC, low byte first, has CRC 0.
The spec marks R156 as a standard property of CRCs, from general knowledge. -/
def Obligations.AppendedCrcGivesZeroResidual : Prop :=
  ∀ s : List Byte, crc16 (s ++ [(crc16 s).extractLsb' 0 8, (crc16 s).extractLsb' 8 8]) = 0x0000

/-- 40_crc R159: a change of exactly one byte, anywhere in a frame with a valid trailer, gives an invalid one.
The spec marks the ground of R159 as general knowledge. -/
def Obligations.SingleByteErrorIsDetected : Prop :=
  ∀ (f : List Byte) (i : Nat) (hi : i < f.length) (b : Byte),
    frameValid f = true → b ≠ f[i] → frameValid (f.set i b) = false

/-! ## The frame codec (41_frame_codec) -/

/-- 41_frame_codec R171 with R170 and R120: BUILD writes the eight bytes, the CRC unit and tx_valid. -/
def Obligations.BuildWritesFrame : Prop :=
  ∀ (addr fc : Byte) (start count : Half) (ign : Byte) (s : State), s.ctl = .idle →
    let h : List Byte := [addr, fc, start.extractLsb' 8 8, start.extractLsb' 0 8, count.extractLsb' 8 8, count.extractLsb' 0 8]
    ∃ frame : Vector Byte 8,
      frame.toList = h ++ [(crc16 h).extractLsb' 0 8, (crc16 h).extractLsb' 8 8] ∧
      exec (.build addr fc start count ign) s =
        .next (completed { accepted s (encode (.build addr fc start count ign)) with
          enc := ⟨frame, true⟩, crc := crc16 h } 0x10 .ok 0 0)

/-- 41_frame_codec R173: every built frame validates.
The spec marks R173 as derived from R170 and R156. -/
def Obligations.BuiltFrameValidates : Prop :=
  ∀ (a fc : Byte) (s n : Half),
    crc16 (buildFrame a fc s n).toList = 0x0000 ∧
    [(buildFrame a fc s n)[6], (buildFrame a fc s n)[7]] =
      [(crc16 ((buildFrame a fc s n).toList.take 6)).extractLsb' 0 8, (crc16 ((buildFrame a fc s n).toList.take 6)).extractLsb' 8 8]

/-- 41_frame_codec R180 with R182 and R117: RECEIVE starts a reception of COUNT registers, or is refused: link closed, or a
COUNT that is not 1 to 8 on all its 16 bits. -/
def Obligations.ReceiveStartsReception : Prop :=
  ∀ (ignHi : BitVec 32) (count : Half) (ignLo : Byte) (s : State), s.ctl = .idle →
    let w := encode (.receive ignHi count ignLo)
    (s.linkOpen = true ∧ 1 ≤ count.toNat ∧ count.toNat ≤ 8 →
      exec (.receive ignHi count ignLo) s = .next { accepted s w with
        rx := { s.rx with
          rxN := BitVec.ofNat 8 count.toNat, rxWant := BitVec.ofNat 8 (5 + 2 * count.toNat), rxLen := 0, rxOk := false }
        dec := { s.dec with mValid := false }
        avail := 0
        k := 0
        ctl := .raDelay }) ∧
    (¬(s.linkOpen = true ∧ 1 ≤ count.toNat ∧ count.toNat ≤ 8) →
      exec (.receive ignHi count ignLo) s = .next (completed (accepted s w) 0x12 .cmdRefused 0 0))

/-- 41_frame_codec R183: phase A. One Delay and one BytesAvailable per poll; the first nonzero count goes to phase B when it is
5, else to phase C; the budget's last zero count ends the reception with NO_RESPONSE.
Events and history are the model's (log 1, log 3). -/
def Obligations.FirstArrivalWait : Prop :=
  (∀ (s : State) (rest : List Event), s.ctl = .raDelay → s.inputs = .answer .done :: rest →
    step s = .next { served s rest (.delay s.params.interval1) with k := s.k + 1, ctl := .raAvail }) ∧
  (∀ (s : State) (rest : List Event) (n : Nat), s.ctl = .raAvail → s.inputs = .answer (.count n) :: rest →
    let t : State := { served s rest .bytesAvailable with avail := n }
    step s = .next (
      if 0 < n then (if n = 5 then { t with ctl := .rbRead } else t.enterC)
      else if s.k = s.params.wait1Iters then t.rxDone .noResponse 0 0
      else { t with ctl := .raDelay }))

/-- 41_frame_codec R184: phase B. A read of the bytes still missing from 5; a zero-byte read is PARTIAL_FRAME, a short one is
retried; with five bytes, bit 7 of byte 1 decides between DEVICE_EXCEPTION(byte 2) and phase C with the bytes kept.
Events and history are the model's (log 1, log 3). -/
def Obligations.ExceptionTest : Prop :=
  ∀ (s : State) (rest : List Event) (r : List Byte), s.ctl = .rbRead → s.inputs = .answer (.bytes r) :: rest →
    s.rx.rxLen.toNat < 5 → r.length ≤ 5 - s.rx.rxLen.toNat →
    let t := served s rest (.read (5 - s.rx.rxLen.toNat))
    let len := s.rx.rxLen.toNat + r.length
    ∃ b : Vector Byte 21,
      b.toList = s.rx.rxbuf.toList.take s.rx.rxLen.toNat ++ r ++ s.rx.rxbuf.toList.drop len ∧
      let u : State := { t with rx := { s.rx with rxbuf := b, rxLen := BitVec.ofNat 8 len } }
      step s = .next (
        if r.length = 0 then t.rxDone .partialFrame s.rx.rxLen s.rx.rxWant
        else if len < 5 then { u with ctl := .rbRead }
        else if b[1].getLsbD 7 then u.rxDone .deviceException b[2] 0
        else State.enterC { u with avail := 0 })

/-- 41_frame_codec R185: phase C. enter_C zeroes k; check_C tests completeness first, then the budget; RC_DELAY and RC_AVAIL
poll on.
Events and history are the model's (log 1, log 3). -/
def Obligations.CompletionWait : Prop :=
  (∀ s : State, s.enterC = State.checkC { s with k := 0 }) ∧
  (∀ s : State, s.checkC =
    if s.rx.rxWant.toNat ≤ s.rx.rxLen.toNat + s.avail then { s with ctl := .rdRead }
    else if s.k = s.params.wait2Iters then s.rxDone .partialFrame (BitVec.ofNat 8 (s.rx.rxLen.toNat + s.avail)) s.rx.rxWant
    else { s with ctl := .rcDelay }) ∧
  (∀ (s : State) (rest : List Event), s.ctl = .rcDelay → s.inputs = .answer .done :: rest →
    step s = .next { served s rest (.delay s.params.interval2) with k := s.k + 1, ctl := .rcAvail }) ∧
  (∀ (s : State) (rest : List Event) (n : Nat), s.ctl = .rcAvail → s.inputs = .answer (.count n) :: rest →
    step s = .next (State.checkC { served s rest .bytesAvailable with avail := n }))

/-- 41_frame_codec R186 and R187: phases D and E. A read of exactly the bytes missing from the frame; a zero-byte read is
PARTIAL_FRAME, a short one is retried; the whole frame is checked in the same step, and crc holds the computed checksum.
Events and history are the model's (log 1, log 3). -/
def Obligations.ReadToCompletion : Prop :=
  ∀ (s : State) (rest : List Event) (r : List Byte), s.ctl = .rdRead → s.inputs = .answer (.bytes r) :: rest →
    s.rx.rxLen.toNat < s.rx.rxWant.toNat → 7 ≤ s.rx.rxWant.toNat → s.rx.rxWant.toNat ≤ 21 →
    r.length ≤ s.rx.rxWant.toNat - s.rx.rxLen.toNat →
    let t := served s rest (.read (s.rx.rxWant.toNat - s.rx.rxLen.toNat))
    let len := s.rx.rxLen.toNat + r.length
    let want := s.rx.rxWant.toNat
    ∃ b : Vector Byte 21,
      b.toList = s.rx.rxbuf.toList.take s.rx.rxLen.toNat ++ r ++ s.rx.rxbuf.toList.drop len ∧
      let c := crc16 (b.toList.take (want - 2))
      let u : State := { t with rx := { s.rx with rxbuf := b, rxLen := BitVec.ofNat 8 len } }
      step s = .next (
        if r.length = 0 then t.rxDone .partialFrame s.rx.rxLen s.rx.rxWant
        else if len < want then { u with ctl := .rdRead }
        else if b.toList[want - 2]? = some (c.extractLsb' 0 8) ∧ b.toList[want - 1]? = some (c.extractLsb' 8 8) then
          State.rxDone { u with crc := c, rx := { u.rx with rxOk := true } } .ok 0 0
        else State.rxDone { u with crc := c } .checksumError 0 0)

/-- 41_frame_codec R188 and R199, 43_discovery R244: how a reception ends, for RECEIVE, READ and a polling read. -/
def Obligations.ReceptionEndings : Prop :=
  ∀ (s : State) (code : ResultCode) (a b : Byte),
    (s.mode = .cmd → s.cur.op = 0x12 → s.rxDone code a b = completed s 0x12 code a b) ∧
    (s.mode = .cmd → s.cur.op = 0x14 → s.rxDone code a b =
      completed (if code = .ok ∧ 6 ≤ s.rx.rxN.toNat then { s with dec := ⟨decodeRecord s.rx.rxbuf, true⟩ } else s) 0x14 code a b) ∧
    (s.mode = .seq → code = .ok → s.rxDone code a b =
      { s with
        dec := ⟨decodeRecord s.rx.rxbuf, true⟩
        res := ⟨.ok, 0, 0⟩
        reports := s.reports ++ [.poll .ok 0 0 (some (decodeRecord s.rx.rxbuf))]
        ctl := .pDelay }) ∧
    (s.mode = .seq → code ≠ .ok → s.rxDone code a b =
      { s with res := ⟨code, a, b⟩, reports := s.reports ++ [.poll code a b none], ctl := .pDelay })

/-- 41_frame_codec R183, R189 row 1: when all WAIT1_ITERS polls of phase A answer 0, a reception ends with NO_RESPONSE after
exactly two transactions per poll.
Events and history are the model's (log 1, log 3).
The spec marks R189 as derived from R183 to R187. -/
def Obligations.NoResponseAfterBudget : Prop :=
  ∀ (s : State) (rest : List Event), s.ctl = .raDelay → s.k = 0 → 1 ≤ s.params.wait1Iters → s.mode = .cmd → s.cur.op = 0x12 →
    s.inputs = pollAnswers (List.replicate s.params.wait1Iters 0) ++ rest →
    ∃ t, Host.Core.run core (2 * s.params.wait1Iters) s = .next t ∧
      t = { s with
        avail := 0
        k := s.params.wait1Iters
        ctl := .idle
        res := ⟨.noResponse, 0, 0⟩
        reports := s.reports ++ [.cmdDone 0x12 .noResponse 0 0]
        inputs := rest
        transactions := s.transactions ++
          (List.replicate s.params.wait1Iters [.delay s.params.interval1, .bytesAvailable]).flatten }

/-- 41_frame_codec R186, R187, R189 rows 5 and 6: a frame of the wanted length that is reported whole at the first poll and
arrives in any number of nonempty reads ends OK exactly when its trailer is valid, else with CHECKSUM_ERROR.
Events and history are the model's (log 1, log 3).
The spec marks R189 as derived from R183 to R187. -/
def Obligations.WholeFrameIsClassified : Prop :=
  ∀ (s : State) (rest : List Event) (n : Nat) (chunks : List (List Byte)),
    s.ctl = .raDelay → s.mode = .cmd → s.cur.op = 0x12 → s.rx.rxLen = 0 → s.rx.rxOk = false →
    7 ≤ s.rx.rxWant.toNat → s.rx.rxWant.toNat ≤ 21 → s.rx.rxWant.toNat ≤ n →
    (∀ c ∈ chunks, c ≠ []) → chunks.flatten.length = s.rx.rxWant.toNat →
    s.inputs = [.answer .done, .answer (.count n)] ++ (chunks.map fun c => .answer (.bytes c)) ++ rest →
    ∃ t, Host.Core.run core (2 + chunks.length) s = .next t ∧
      t.frame = chunks.flatten ∧ t.rx.rxLen = s.rx.rxWant ∧
      t.crc = crc16 (chunks.flatten.take (s.rx.rxWant.toNat - 2)) ∧
      t.rx.rxOk = frameValid chunks.flatten ∧
      t.res = ⟨if frameValid chunks.flatten then .ok else .checksumError, 0, 0⟩ ∧
      t.reports = s.reports ++ [.cmdDone 0x12 (if frameValid chunks.flatten then .ok else .checksumError) 0 0] ∧
      t.ctl = .idle ∧ t.inputs = rest ∧ t.dec = s.dec ∧ t.enc = s.enc ∧ t.cfg = s.cfg

/-- 41_frame_codec R190 and R191: DECODE writes the record of the validated frame, or is refused. -/
def Obligations.DecodeWritesRecord : Prop :=
  ∀ (ign : BitVec 56) (s : State), s.ctl = .idle →
    let w := encode (.decode ign)
    let b := s.rx.rxbuf
    let r0 : Half := (b[3].setWidth 16 <<< 8) ||| b[4].setWidth 16
    let r1 : Half := (b[5].setWidth 16 <<< 8) ||| b[6].setWidth 16
    let r2 : Half := (b[7].setWidth 16 <<< 8) ||| b[8].setWidth 16
    let r3 : Half := (b[9].setWidth 16 <<< 8) ||| b[10].setWidth 16
    let r4 : Half := (b[11].setWidth 16 <<< 8) ||| b[12].setWidth 16
    let r5 : Half := (b[13].setWidth 16 <<< 8) ||| b[14].setWidth 16
    (s.rx.rxOk = true ∧ 6 ≤ s.rx.rxN.toNat →
      exec (.decode ign) s = .next (completed { accepted s w with
        dec := ⟨⟨r0, r1, r2.setWidth 32 ||| (r3.setWidth 32 <<< 16), r4.setWidth 32 ||| (r5.setWidth 32 <<< 16)⟩, true⟩ }
        0x13 .ok 0 0)) ∧
    (¬(s.rx.rxOk = true ∧ 6 ≤ s.rx.rxN.toNat) →
      exec (.decode ign) s = .next (completed (accepted s w) 0x13 .cmdRefused 0 0))

/-- 41_frame_codec R193 and R192: the composition of power and energy from the wire bytes, and the record's ranges.
The spec marks R193 as derived from R191 and R79. -/
def Obligations.RecordComposition : Prop :=
  ∀ b : Vector Byte 21,
    let m := decodeRecord b
    m.voltage.toNat = b[3].toNat * 2 ^ 8 + b[4].toNat ∧
    m.current.toNat = b[5].toNat * 2 ^ 8 + b[6].toNat ∧
    m.power.toNat = b[9].toNat * 2 ^ 24 + b[10].toNat * 2 ^ 16 + b[7].toNat * 2 ^ 8 + b[8].toNat ∧
    m.energy.toNat = b[13].toNat * 2 ^ 24 + b[14].toNat * 2 ^ 16 + b[11].toNat * 2 ^ 8 + b[12].toNat ∧
    m.toRecord.voltage * 100 = m.voltage.toNat ∧ m.toRecord.current * 100 = m.current.toNat ∧
    m.toRecord.power * 10 = m.power.toNat ∧ m.toRecord.energy = m.energy.toNat ∧
    (0 ≤ m.toRecord.voltage ∧ m.toRecord.voltage ≤ 65535 / 100) ∧ (0 ≤ m.toRecord.current ∧ m.toRecord.current ≤ 65535 / 100) ∧
    (0 ≤ m.toRecord.power ∧ m.toRecord.power ≤ 4294967295 / 10) ∧ (0 ≤ m.toRecord.energy ∧ m.toRecord.energy ≤ 4294967295)

/-- 41_frame_codec R198, acceptance: READ builds a 0x04 request whatever its FC and goes to the send sites, or is refused. -/
def Obligations.ReadBuildsRequest : Prop :=
  ∀ (addr ignFc : Byte) (start count : Half) (ignData : Byte) (s : State), s.ctl = .idle →
    let w := encode (.read addr ignFc start count ignData)
    (s.linkOpen = true ∧ 1 ≤ count.toNat ∧ count.toNat ≤ 8 →
      exec (.read addr ignFc start count ignData) s = .next { accepted s w with
        enc := ⟨buildFrame addr 0x04 start count, true⟩
        crc := crc16 ((buildFrame addr 0x04 start count).toList.take 6)
        ctl := firstSend s.params .sDisc .sWrite }) ∧
    (¬(s.linkOpen = true ∧ 1 ≤ count.toNat ∧ count.toNat ≤ 8) →
      exec (.read addr ignFc start count ignData) s = .next (completed (accepted s w) 0x14 .cmdRefused 0 0))

/-! ## The link commands (42_link) -/

/-- 42_link R220: SEND goes to the send sites, or is refused; S_DISC discards, S_WRITE writes the eight bytes of txbuf.
Events and history are the model's (log 1, log 3). -/
def Obligations.SendWritesFrame : Prop :=
  (∀ (ign : BitVec 56) (s : State), s.ctl = .idle →
    exec (.send ign) s = .next (
      if s.linkOpen = true ∧ s.enc.txValid = true then
        { accepted s (encode (.send ign)) with ctl := firstSend s.params .sDisc .sWrite }
      else completed (accepted s (encode (.send ign))) 0x11 .cmdRefused 0 0)) ∧
  (∀ (s : State) (rest : List Event), s.ctl = .sDisc → s.inputs = .answer .done :: rest →
    step s = .next { served s rest .discardBuffers with ctl := .sWrite }) ∧
  (∀ (s : State) (rest : List Event) (r : Status), s.ctl = .sWrite → s.inputs = .answer (.status r) :: rest →
    step s = .next (State.writeDone (served s rest (.write s.enc.txbuf)) r))

/-- 42_link R221 with 41_frame_codec R182: how a write goes on, for SEND, READ and the polling read, the reception an Ok starts
written out. -/
def Obligations.WriteContinuations : Prop :=
  ∀ (s : State) (r : Status),
    (s.mode = .cmd → s.cur.op = 0x11 →
      s.writeDone r = completed s 0x11 (if r = .ok then .ok else .transportFailure) 0 0) ∧
    (s.mode = .cmd → s.cur.op = 0x14 →
      s.writeDone r = if r = .ok then begun s s.cur.count.toNat else completed s 0x14 .transportFailure 0 0) ∧
    (s.mode = .seq →
      s.writeDone r = if r = .ok then begun s 8 else
        { s with
          res := ⟨.transportFailure, 0, 0⟩
          reports := s.reports ++ [.poll .transportFailure 0 0 none]
          ctl := .pDelay })

/-- 42_link R212: LINK_OPEN completes at once when the link is open, else issues Open and takes its answer.
Events and history are the model's (log 1, log 3). -/
def Obligations.LinkOpenOpensOnce : Prop :=
  (∀ (ign : BitVec 56) (s : State), s.ctl = .idle →
    exec (.linkOpen ign) s = .next (
      if s.linkOpen = true then completed (accepted s (encode (.linkOpen ign))) 0x18 .ok 0 0
      else { accepted s (encode (.linkOpen ign)) with ctl := .lOpen })) ∧
  (∀ (s : State) (rest : List Event) (r : Status), s.ctl = .lOpen → s.inputs = .answer (.status r) :: rest →
    let t := served s rest (.openLink s.params.linkId)
    step s = .next (
      if r = .ok then completed { t with linkOpen := true } 0x18 .ok 0 0 else completed t 0x18 .linkOpenFailure 0 0))

/-- 42_link R214 with R116: LINK_CONFIG configures the triple its operands name and records it on Ok; refused when the link is
closed or f ≥ NF.
Events and history are the model's (log 1, log 3). -/
def Obligations.LinkConfigApplies : Prop :=
  (∀ (addr : Byte) (ignMid : BitVec 40) (ignTop : BitVec 3) (driver : Bool) (framing : BitVec 4) (s : State), s.ctl = .idle →
    let w := encode (.linkConfig addr ignMid ignTop driver framing)
    exec (.linkConfig addr ignMid ignTop driver framing) s = .next (
      if s.linkOpen = true ∧ framing.toNat < s.params.framings.length then { accepted s w with ctl := .lConf }
      else completed (accepted s w) 0x19 .cmdRefused 0 0)) ∧
  (∀ (s : State) (rest : List Event) (r : Status) (framing : Framing),
    s.ctl = .lConf → s.inputs = .answer (.status r) :: rest →
    s.params.framings[(s.cur.data.extractLsb' 0 4).toNat]? = some framing →
    let t := served s rest (.configure framing (s.cur.data.getLsbD 4) s.cur.addr)
    step s = .next (
      if r = .ok then
        completed { t with cfg := ⟨s.cur.data.extractLsb' 0 4, s.cur.data.getLsbD 4, s.cur.addr, 0, true⟩ } 0x19 .ok 0 0
      else completed t 0x19 .transportFailure 0 0))

/-- 42_link R217: LINK_DISCARD issues one DiscardBuffers and completes OK; refused when the link is closed.
Events and history are the model's (log 1, log 3). -/
def Obligations.LinkDiscardDiscards : Prop :=
  (∀ (ign : BitVec 56) (s : State), s.ctl = .idle →
    exec (.linkDiscard ign) s = .next (
      if s.linkOpen = true then { accepted s (encode (.linkDiscard ign)) with ctl := .lDisc }
      else completed (accepted s (encode (.linkDiscard ign))) 0x1A .cmdRefused 0 0)) ∧
  (∀ (s : State) (rest : List Event), s.ctl = .lDisc → s.inputs = .answer .done :: rest →
    step s = .next (completed (served s rest .discardBuffers) 0x1A .ok 0 0))

/-! ## The sequencer (43_discovery) -/

/-- 43_discovery R235 and R236, with R247 for the fatal stop: DISC_START opens the link if needed and probes candidate 0; a failed
open is fatal.
Events and history are the model's (log 1, log 3). -/
def Obligations.DiscStartOpensAndProbes : Prop :=
  (∀ (ign : BitVec 56) (s : State), s.ctl = .idle →
    exec (.discStart ign) s = .next { s with
      cur := encode (.discStart ign)
      mode := .seq
      ci := 0
      ctl := if s.linkOpen = true then .qConf else .qOpen }) ∧
  (∀ (s : State) (rest : List Event) (r : Status), s.ctl = .qOpen → s.inputs = .answer (.status r) :: rest →
    let t := served s rest (.openLink s.params.linkId)
    step s = .next (
      if r = .ok then { t with linkOpen := true, ci := 0, ctl := .qConf }
      else { t with
        res := ⟨.linkOpenFailure, 0, 0⟩, reports := s.reports ++ [.fatal .linkOpenFailure], ctl := .fatal }))

/-- 43_discovery R237, R238 and R240: one probe's configure, discard and write, and the silent advance when one fails.
Events and history are the model's (log 1, log 3). -/
def Obligations.ProbeConfiguresAndWrites : Prop :=
  (∀ (s : State) (rest : List Event) (r : Status) (c : Candidate),
    s.ctl = .qConf → s.inputs = .answer (.status r) :: rest → candidate s.params s.ci.toNat = some c →
    let t := served s rest (.configure c.framing c.driver c.address)
    step s = .next (
      if r = .ok then { t with
        enc := ⟨buildFrame c.address 0x04 0x0000 1, true⟩
        crc := crc16 ((buildFrame c.address 0x04 0x0000 1).toList.take 6)
        ctl := firstSend s.params .qSdisc .qWrite }
      else t.advance)) ∧
  (∀ (s : State) (rest : List Event), s.ctl = .qSdisc → s.inputs = .answer .done :: rest →
    step s = .next { served s rest .discardBuffers with ctl := .qWrite }) ∧
  (∀ (s : State) (rest : List Event) (r : Status), s.ctl = .qWrite → s.inputs = .answer (.status r) :: rest →
    let t := served s rest (.write s.enc.txbuf)
    step s = .next (if r = .ok then { t with k := 0, avail := 0, ctl := .qDelay } else t.advance)) ∧
  (∀ s : State, s.advance =
    if s.ci.toNat + 1 < s.params.size then { s with ci := s.ci + 1, ctl := .qConf } else { s with ctl := .qExh })

/-- 43_discovery R239 and R241: the probe's wait, its success test before its budget, and what Found latches and reports.
Events and history are the model's (log 1, log 3). -/
def Obligations.ProbeWaitsAndFinds : Prop :=
  (∀ (s : State) (rest : List Event), s.ctl = .qDelay → s.inputs = .answer .done :: rest →
    step s = .next { served s rest (.delay s.params.probeInterval) with k := s.k + 1, ctl := .qAvail }) ∧
  (∀ (s : State) (rest : List Event) (n : Nat) (c : Candidate),
    s.ctl = .qAvail → s.inputs = .answer (.count n) :: rest → candidate s.params s.ci.toNat = some c →
    let t : State := { served s rest .bytesAvailable with avail := n }
    step s = .next (
      if s.params.probeMinBytes ≤ n then { t with
        cfg := ⟨c.f, c.driver, c.address, s.ci, true⟩
        reports := s.reports ++ [.found c.f c.driver c.address s.ci]
        ctl := .qFdisc }
      else if s.k = s.params.probeIters then t.advance
      else { t with ctl := .qDelay }))

/-- 43_discovery R242: Q_EXH is one internal step: it reports the exhaustion, starts at candidate 0 again, issues no
transaction and takes no answer.
Events and history are the model's (log 1, log 3). -/
def Obligations.ExhaustionRestarts : Prop :=
  ∀ s : State, s.ctl = .qExh →
    ((s.inputs = [] ∨ ∃ a rest, s.inputs = .answer a :: rest) →
      step s = .next { s with reports := s.reports ++ [.exhausted], ci := 0, ctl := .qConf }) ∧
    (∀ rest, s.inputs = .internal :: rest →
      step s = .next { s with inputs := rest, reports := s.reports ++ [.exhausted], ci := 0, ctl := .qConf })

/-- 43_discovery R243 and R245, with Q_FDISC of R241: after the probe reply is discarded, and after every POLL_PERIOD, the next
polling request is built for cfg_a and sent.
Events and history are the model's (log 1, log 3). -/
def Obligations.PollBuildsRequest : Prop :=
  ∀ (s : State) (rest : List Event), s.inputs = .answer .done :: rest →
    ∀ x : Transaction, (s.ctl = .qFdisc ∧ x = .discardBuffers) ∨ (s.ctl = .pDelay ∧ x = .delay s.params.pollPeriod) →
      step s = .next { served s rest x with
        enc := ⟨buildFrame s.cfg.a 0x04 0x0000 8, true⟩
        crc := crc16 ((buildFrame s.cfg.a 0x04 0x0000 8).toList.take 6)
        ctl := firstSend s.params .sDisc .sWrite }

/-- 43_discovery R232 and R233: every index below N names one candidate, address fastest and framing slowest, and list positions
f, d and a are those of index (f·ND + d)·NA + a.
The spec marks R233 as derived from R232, and that there is no candidate at N or above is the model's choice (log 7). -/
def Obligations.CandidateOrder : Prop :=
  ∀ p : Params, p.Valid →
    p.size ≤ 8192 ∧
    (∀ (f d a : Nat) (hf : f < p.framings.length) (hd : d < p.driverModes.length) (ha : a < p.addresses.length),
      (f * p.nd + d) * p.na + a < p.size ∧
      candidate p ((f * p.nd + d) * p.na + a) = some ⟨BitVec.ofNat 4 f, p.framings[f], p.driverModes[d], p.addresses[a]⟩) ∧
    (∀ i < p.size, ∃ f d a, f < p.nf ∧ d < p.nd ∧ a < p.na ∧ i = (f * p.nd + d) * p.na + a) ∧
    (∀ i, p.size ≤ i → candidate p i = none)

/-- 43_discovery R248: when no probe succeeds, the search configures cand(0) to cand(N−1) in order, reports EXHAUSTED, and is
back at candidate 0, again and again: the r-th EXHAUSTED follows exactly r·N failed probes.
Events and history are the model's (log 1, log 3).
The spec marks R248 as derived from R237 to R242. -/
def Obligations.SearchWrapsAround : Prop :=
  ∀ (s : State) (rest : List Event) (r : Nat) (probes : List FailedProbe),
    s.params.Valid → s.ctl = .qConf → s.ci = 0 →
    probes.length = r * s.params.size → (∀ q ∈ probes, q.Fails s.params) →
    s.inputs = (probes.map fun q => q.events s.params).flatten ++ rest →
    (∀ e, rest.head? = some e → ∃ a, e = .answer a) →
    ∃ t, Host.Core.run core ((probes.map fun q => (q.events s.params).length).sum + r) s = .next t ∧
      t.ctl = .qConf ∧ t.ci = 0 ∧ t.inputs = rest ∧ t.mode = s.mode ∧ t.cur = s.cur ∧ t.res = s.res ∧ t.cfg = s.cfg ∧
      t.reports = s.reports ++ List.replicate r .exhausted ∧
      ∃ log, t.transactions = s.transactions ++ log ∧
        log.filter Transaction.isConfigure = (List.replicate r (sweep s.params)).flatten

/-- 43_discovery R246: once polling, no answer of the host and no presented word ends it, alters the Configuration register or
issues a Configure; only reset does.
Events and history are the model's (log 1, log 3). -/
def Obligations.PollingNeverLeaves : Prop :=
  ∀ s t : State, s.mode = .seq → s.ctl.Polling → (∀ rest, s.inputs ≠ .reset :: rest) → step s = .next t →
    t.mode = .seq ∧ t.ctl.Polling ∧ t.cfg = s.cfg ∧
    ∃ log, t.transactions = s.transactions ++ log ∧ ∀ x ∈ log, x.isConfigure = false

/-! ## Rules over all steps -/

/-- 10_state R50: the report stream is append-only, at most one record a step, but for the reset event, which empties it.
Events and history are the model's (log 1, log 3). -/
def Obligations.ReportsOnlyGrow : Prop :=
  ∀ s t : State, step s = .next t → (∀ rest, s.inputs ≠ .reset :: rest) →
    t.reports = s.reports ∨ ∃ r, t.reports = s.reports ++ [r]

/-- 00_scope R18, 20_memory R80: a step that takes an answer issues exactly the transaction of its control point; every other
step issues none and takes no answer: one next in store at Q_EXH stays there.
Events and history are the model's (log 1, log 3). -/
def Obligations.OneTransactionPerAnswer : Prop :=
  ∀ s t : State, step s = .next t →
    (t.transactions = s.transactions ∧ (∀ a rest, s.inputs = .answer a :: rest → s.ctl = .qExh ∧ t.inputs = s.inputs)) ∨
    (∃ a rest x, s.inputs = .answer a :: rest ∧ t.inputs = rest ∧ s.request = some x ∧ t.transactions = s.transactions ++ [x])

/-- 10_state R47: link_open rises only on an Ok answer to Open and falls only at reset.
Events and history are the model's (log 1, log 3). -/
def Obligations.LinkOpenFlagWriters : Prop :=
  ∀ s t : State, step s = .next t → t.linkOpen ≠ s.linkOpen →
    (s.linkOpen = false ∧ (s.ctl = .lOpen ∨ s.ctl = .qOpen) ∧ ∃ rest, s.inputs = .answer (.status .ok) :: rest) ∨
    (s.linkOpen = true ∧ ∃ rest, s.inputs = .reset :: rest)

/-- 42_link R223, 10_state R46: the Configuration register changes only by an Ok LINK_CONFIG, a Found, or reset.
Events and history are the model's (log 1, log 3).
The spec marks R223 as derived from R212 to R221. -/
def Obligations.ConfigurationWriters : Prop :=
  ∀ s t : State, step s = .next t → t.cfg ≠ s.cfg →
    (s.ctl = .lConf ∧ (∃ rest, s.inputs = .answer (.status .ok) :: rest) ∧
      t.cfg = ⟨s.cur.framing, s.cur.driver, s.cur.addr, 0, true⟩) ∨
    (s.ctl = .qAvail ∧ (∃ n rest, s.inputs = .answer (.count n) :: rest ∧ s.params.probeMinBytes ≤ n) ∧
      ∃ c, candidate s.params s.ci.toNat = some c ∧ t.cfg = ⟨c.f, c.driver, c.address, s.ci, true⟩) ∨
    (∃ rest, s.inputs = .reset :: rest)

/-- 10_state R33 and R34: txbuf is written only as a whole built frame, and tx_valid is cleared only by reset.
Events and history are the model's (log 1, log 3). -/
def Obligations.TransmitBufferWriters : Prop :=
  ∀ s t : State, step s = .next t → (∀ rest, s.inputs ≠ .reset :: rest) →
    t.enc = s.enc ∨ ∃ a fc start n, t.enc = ⟨buildFrame a fc start n, true⟩

/-- 10_state R45, 70_reset R315: the four measurement registers change only to the record of the frame in rxbuf, with rx_ok and
m_valid set; reset aside.
Events and history are the model's (log 1, log 3). -/
def Obligations.MeasurementWriters : Prop :=
  ∀ s t : State, step s = .next t → (∀ rest, s.inputs ≠ .reset :: rest) → t.dec.record ≠ s.dec.record →
    t.rx.rxOk = true ∧ t.dec = ⟨decodeRecord t.rx.rxbuf, true⟩

/-- 43_discovery R235: once DISC_START is accepted, the machine stays with the sequencer: no step but reset leads to IDLE, and
mode and cur stand.
Events and history are the model's (log 1, log 3). -/
def Obligations.SequencerKeepsControl : Prop :=
  ∀ s t : State, s.Inv → s.mode = .seq → (∀ rest, s.inputs ≠ .reset :: rest) → step s = .next t →
    t.mode = .seq ∧ t.ctl ≠ .idle ∧ t.cur = s.cur

/-- 43_discovery R247, R251: FATAL is entered only by an Err answer to DISC_START's Open, and only reset leaves it; what the
caller presents there is refused.
Events and history are the model's (log 1, log 3).
The spec marks R251 as derived from R235 to R247. -/
def Obligations.FatalIsTerminal : Prop :=
  (∀ s t : State, step s = .next t → t.ctl = .fatal → s.ctl ≠ .fatal →
    s.ctl = .qOpen ∧ ∃ rest, s.inputs = .answer (.status .err) :: rest) ∧
  (∀ s t : State, s.ctl = .fatal → step s = .next t → (∃ rest, s.inputs = .reset :: rest) ∨
    (∃ w rest, s.inputs = .present w :: rest ∧
      t = if w.op = 0x00 then { s with inputs := rest } else refusedBusy { s with inputs := rest } w.op)) ∧
  (∀ s : State, s.ctl = .fatal → s.inputs = [] → step s = .fault .halted)

/-- 43_discovery R250: while probing or exhausted, the engine's own steps write no result register and emit at most FOUND or
EXHAUSTED.
Events and history are the model's (log 1, log 3).
The spec marks R250 as derived from R235 to R242. -/
def Obligations.DiscoveryIsSilent : Prop :=
  ∀ s t : State, s.ctl.Probing ∨ s.ctl = .qExh → (∀ w rest, s.inputs ≠ .present w :: rest) →
    (∀ rest, s.inputs ≠ .reset :: rest) → step s = .next t →
    t.res = s.res ∧
    (t.reports = s.reports ∨ t.reports = s.reports ++ [.exhausted] ∨
      ∃ f d a idx, t.reports = s.reports ++ [.found f d a idx])

/-! ## The invariant -/

/-- Every step keeps the machine's invariant: lengths in range, rx_ok only on a valid frame, m_valid only on its record, tx_valid only
on a valid request, payloads by code, each control point with its mode, command, link and budgets.
The clauses are read from the rules by inference (log 16). -/
def Obligations.EveryStepKeepsInv : Prop := ∀ s t : State, s.Inv → step s = .next t → t.Inv

/-- The invariant holds after reset, for every valid choice of the parameters. -/
def Obligations.ResetMeetsInv : Prop := ∀ p : Params, p.Valid → (State.resetWith p).Inv

/-- 43_discovery R230 with R234 and R251: under the sequencer the engine moves only along the source's state machine
Idle → Probing(cand(0)), Probing(cand(i)) → Found(cand(i)) | Probing(cand(i+1)) | Exhausted after the last, Exhausted →
Probing(cand(0)); Found is kept for the rest of the run, and from Idle (the link being opened) FATAL is the other exit.
Events and history are the model's (log 1, log 3). -/
def Obligations.RefinesSourceStateMachine : Prop :=
  ∀ s t : State, s.Inv → s.mode = .seq → (∀ rest, s.inputs ≠ .reset :: rest) → step s = .next t →
    (s.stateOf = .idle ∧ (t.stateOf = .idle ∨ t.ctl = .fatal ∨
      ∃ c, candidate s.params 0 = some c ∧ t.stateOf = .probing c)) ∨
    (∃ i c, candidate s.params i = some c ∧ s.stateOf = .probing c ∧
      (t.stateOf = .probing c ∨
       (∃ c', candidate s.params (i + 1) = some c' ∧ t.stateOf = .probing c') ∨
       (i + 1 = s.params.size ∧ t.stateOf = .exhausted) ∨
       t.stateOf = .found ⟨c.f, c.driver, c.address, BitVec.ofNat 16 i, true⟩)) ∨
    (s.stateOf = .exhausted ∧ (t.stateOf = .exhausted ∨
      ∃ c, candidate s.params 0 = some c ∧ t.stateOf = .probing c)) ∨
    (∃ cfg, s.stateOf = .found cfg ∧ t.stateOf = .found cfg) ∨
    (s.ctl = .fatal ∧ t.ctl = .fatal)

/-- 20_memory R91: a silent host leaves the engine without a step at every transaction site; a read answered with more than it
asked for, and an answer nobody asked for, have no move.
That a missing move is a named fault is the model's choice (log 5, log 6). -/
def Obligations.HostBreachesHaveNoMove : Prop :=
  (∀ s : State, s.ctl ≠ .idle → s.ctl ≠ .fatal → s.ctl ≠ .qExh → s.inputs = [] → step s = .fault .awaitingAnswer) ∧
  (∀ (s : State) (r : List Byte) (rest : List Event) (m : Nat),
    s.request = some (.read m) → s.inputs = .answer (.bytes r) :: rest → m < r.length → step s = .fault .overlongRead) ∧
  (∀ (s : State) (a : Answer) (rest : List Event),
    s.ctl = .idle ∨ s.ctl = .fatal → s.inputs = .answer a :: rest → step s = .fault .unsolicitedAnswer)

/-! ## Ports -/

/-- 10_state R52 to R55: the readback words, bit by bit, and 0 at every index not listed; CTL by the codes of R40 and RES_KIND by
the numbers of 30_encoding R125. -/
def Obligations.ReadbackWords : Prop :=
  ∀ s : State,
    (let w := s.readback 0x00
     (s.ctl, (w.extractLsb' 0 5).toNat) ∈ ctlCodes ∧ w.getLsbD 5 = decide (s.mode = .seq) ∧
     (s.res.kind, (w.extractLsb' 6 4).toNat) ∈ resultCodes ∧
     w.getLsbD 10 = s.linkOpen ∧ w.getLsbD 11 = s.enc.txValid ∧ w.getLsbD 12 = s.rx.rxOk ∧ w.getLsbD 13 = s.dec.mValid ∧
     w.getLsbD 14 = s.cfg.valid ∧ w.extractLsb' 15 17 = 0) ∧
    (s.readback 0x01).toNat = s.res.a.toNat + s.res.b.toNat * 2 ^ 8 ∧
    (s.readback 0x02).toNat = s.crc.toNat ∧
    (s.readback 0x03).toNat = s.cfg.f.toNat + s.cfg.d.toNat * 2 ^ 4 + s.cfg.a.toNat * 2 ^ 8 + s.cfg.idx.toNat * 2 ^ 16 ∧
    (s.readback 0x04).toNat = s.ci.toNat + min s.k 0xFFFF * 2 ^ 16 ∧
    (s.readback 0x05).toNat = s.rx.rxLen.toNat + s.rx.rxWant.toNat * 2 ^ 8 + s.rx.rxN.toNat * 2 ^ 16 ∧
    (s.readback 0x06).toNat = min s.avail 0xFFFFFFFF ∧
    (s.readback 0x07).toNat = s.dec.record.voltage.toNat ∧
    (s.readback 0x08).toNat = s.dec.record.current.toNat ∧
    s.readback 0x09 = s.dec.record.power ∧
    s.readback 0x0A = s.dec.record.energy ∧
    (s.readback 0x0B).toNat + (s.readback 0x0C).toNat * 2 ^ 32 = s.cur.toNat ∧
    (∀ i : Fin 8, s.readback (BitVec.ofNat 8 (0x10 + i.val)) = s.enc.txbuf[i].setWidth 32) ∧
    (∀ j : Fin 21, s.readback (BitVec.ofNat 8 (0x20 + j.val)) = s.rx.rxbuf[j].setWidth 32) ∧
    (∀ n : Byte,
      (0x0D ≤ n.toNat ∧ n.toNat ≤ 0x0F) ∨ (0x18 ≤ n.toNat ∧ n.toNat ≤ 0x1F) ∨ 0x35 ≤ n.toNat → s.readback n = 0)

/-- 20_memory R94: a host that keeps its duties returns, after a DiscardBuffers or an Ok Configure, only bytes that arrived after
it, in the order they arrived.
The host contract is the model's form of R90 (log 9). -/
def Obligations.NoStaleBytesAfterDiscard : Prop :=
  ∀ (t u v : Transport) (x : Transaction) (a : Answer) (es : List HostEvent),
    (x = .discardBuffers ∧ a = .done) ∨ (x.isConfigure = true ∧ a = .status .ok) →
    t.Serves x a u → u.Runs es v → (bytesRead es).Sublist (arrivals es)

/-- 30_encoding R142 with R140 and R141: a word that decodes is listed as its command with the operands it uses, spelled as in R141 with
hexadecimal values, which assembles to its word with the ignored bits cleared; a word with a reserved OP is listed as `.word 0x` and
its 16 digits, which assembles to the word itself; and every listing, as a statement and as a line of text, assembles to one word
with the same OP and the same listing.
Assembler details that the rules leave open (upper case, how many digits, `.word` as input) are the model's (log 13). -/
def Obligations.DisassemblyAssembles : Prop :=
  (∀ (w : CommandWord) (i : Instr), decode w = .ok i →
    disassemble w = listing i ∧ (disassemble w).assemble = .ok [encode (usedOnly i)] ∧
    ∀ m operands, listing i = .command m operands →
      disassembleLine w = commandText m ", " (operands.map fun o =>
        operandText o.1 ("0x".toList ++ hexText (((operandRow o.1).2.2 + 3) / 4) o.2))) ∧
  (∀ w : CommandWord, w.op ∉ assignedOps →
    disassemble w = .word w.toNat ∧ (disassemble w).assemble = .ok [w] ∧
    disassembleLine w = ".word 0x".toList ++ hexText 16 w.toNat) ∧
  (∀ w : CommandWord, ∃ v : CommandWord,
    (disassemble w).assemble = .ok [v] ∧ assembleLine (disassembleLine w) = .ok [v] ∧
    disassemble v = disassemble w ∧ v.op = w.op)

/-- 30_encoding R143: the pseudo-instructions that name an address stand for the commands they expand to.
Assembler details that R140 leaves open are the model's (log 13). -/
def Obligations.PseudoInstructionsExpand : Prop :=
  ∀ (a : Byte) (s c : Half) (bytes : List Byte),
    (AsmStatement.probe [(.addr, a.toNat)]).assemble = .ok [encode (.read a 0 0x0000 1 0)] ∧
    (AsmStatement.pollRead [(.addr, a.toNat)]).assemble = .ok [encode (.read a 0 0x0000 8 0)] ∧
    (AsmStatement.req [(.addr, a.toNat), (.start, s.toNat), (.count, c.toNat)]).assemble =
      .ok [encode (.build a 0x04 s c 0), encode (.send 0)] ∧
    (AsmStatement.crc16 (bytes.map BitVec.toNat)).assemble =
      .ok (encode (.crcInit 0) :: bytes.map fun b => encode (.crcByte 0 b)) ∧
    (AsmStatement.crcCheck (bytes.map BitVec.toNat)).assemble = (AsmStatement.crc16 (bytes.map BitVec.toNat)).assemble

/-- 20_memory R81 with R90: the host's line settings change only in a Configure; its Ok opens the link with the new settings and
both buffers empty. The host contract is the model's form of R90 (log 9), and when bytes are transmitted is its choice (log 17). -/
def Obligations.OnlyConfigureAppliesSettings : Prop :=
  (∀ (t u : Transport) (e : HostEvent), t.Does e u → u.applied ≠ t.applied →
    ∃ f d a r, e = .serve (.configure f d a) (.status r)) ∧
  (∀ (t u : Transport) (f : Framing) (d : Bool) (a : Byte), t.Serves (.configure f d a) (.status .ok) u →
    u.isOpen = true ∧ u.applied = some (f, d, a) ∧ u.output = [] ∧ u.input = [] ∧ u.written = t.written)

/-- 30_encoding R140 with R141 and R112: a line of a mnemonic and any operands it lists, in any order, each value decimal or
hexadecimal, assembles to OP and each value at its place, an omitted operand as 0; one that the mnemonic does not list is an error; a
comment runs to the end of the line; and a text is its lines in order.
The spec gives hexadecimal digits no case, and that a value has to fit its field and no operand may stand twice is the model's
choice (log 13). -/
def Obligations.AssemblerReadsLines : Prop :=
  (∀ (m : Mnemonic) (operands : List (OperandName × Numeral)) (sep : String),
    sep = "," ∨ sep = ", " → (∀ o ∈ operands, o.2.HasDigits) →
    ((operands.map Prod.fst).Nodup → (∀ o ∈ operands, o.1 ∈ (commandRow m).2.2 ∧ o.2.value < 2 ^ (operandRow o.1).2.2) →
      assembleLine (sourceLine m sep operands) =
        .ok [BitVec.ofNat 64 ((commandRow m).2.1 * 2 ^ 56 +
          (operands.map fun o => o.2.value * 2 ^ (operandRow o.1).2.1).sum)]) ∧
    ((∃ o ∈ operands, o.1 ∉ (commandRow m).2.2) → ∃ e, assembleLine (sourceLine m sep operands) = .error e)) ∧
  (∀ line comment : List Char, assembleLine (line ++ ';' :: comment) = assembleLine line) ∧
  (∀ line : List Char, '\n' ∉ line → assembleText line = assembleLine line) ∧
  (∀ (line rest : List Char) (ws more : List CommandWord), '\n' ∉ line →
    assembleLine line = .ok ws → assembleText rest = .ok more → assembleText (line ++ '\n' :: rest) = .ok (ws ++ more))
end

