-- ==== Sys2Proof/Laws/Encoding.lean ====
section
/-! SUPPORT. The fields of an encoded word (30_encoding R112): what the decoder's extractions see in an encoder's word. -/

namespace Sys2Proof

/-- OP stands in bits [63:56] of every encoded instruction. -/
@[simp] theorem encode_op (i : Instr) : (encode i).op = i.op := by
  simp only [encode, CommandWord.op]
  ext j hj
  rw [BitVec.getElem_extractLsb', BitVec.getLsbD_append]
  simp [BitVec.getLsbD_eq_getElem hj]

end Sys2Proof
end

