-- ==== Sys2Proof/Laws/Flags.lean ====
section
/-! SUPPORT. The tests that drive control, read as propositions (60_exceptions R271 row 3, R278), and what the trailer test says of
the frame. -/

namespace Sys2Proof.Machine

theorem countOk_iff (n : Half) : countOk n = true ↔ 1 ≤ n.toNat ∧ n.toNat ≤ 8 := by
  unfold countOk
  rw [Bool.and_eq_true, decide_eq_true_eq, decide_eq_true_eq]
  rfl

theorem State.refusesSend_false (s : State) : s.refusesSend = false ↔ s.linkOpen = true ∧ s.enc.txValid = true := by
  simp [State.refusesSend]

theorem State.refusesCount_false (s : State) (n : Half) :
    s.refusesCount n = false ↔ s.linkOpen = true ∧ 1 ≤ n.toNat ∧ n.toNat ≤ 8 := by
  rw [← countOk_iff]
  simp [State.refusesCount]

theorem State.refusesDecode_false (s : State) : s.refusesDecode = false ↔ s.rx.rxOk = true ∧ 6 ≤ s.rx.rxN.toNat := by
  unfold State.refusesDecode
  rw [Bool.or_eq_false_iff, decide_eq_false_iff_not, Nat.not_lt, Bool.not_eq_false']
  rfl

theorem State.refusesConfig_false (s : State) (f : BitVec 4) :
    s.refusesConfig f = false ↔ s.linkOpen = true ∧ f.toNat < s.params.nf := by
  simp [State.refusesConfig]

theorem State.refusesDiscard_false (s : State) : s.refusesDiscard = false ↔ s.linkOpen = true := by
  simp [State.refusesDiscard]

/-- A buffer whose two bytes before `want` are the CRC of those before them holds a valid frame of `want` bytes (R187, R39). -/
theorem frameValid_take {b : List Byte} {want : Nat} (h2 : 2 ≤ want) (hw : want ≤ b.length)
    (h : ((b.drop (want - 2)).take 2 == crcTrailer (crc16 (b.take (want - 2)))) = true) : frameValid (b.take want) = true := by
  simp only [frameValid, List.length_take, Nat.min_eq_left hw, List.take_take, Nat.min_eq_left (Nat.sub_le want 2), List.drop_take,
    Bool.and_eq_true, decide_eq_true_eq]
  exact ⟨h2, by rw [show want - (want - 2) = 2 by omega]; exact h⟩

end Sys2Proof.Machine
end

