-- ==== Sys2Proof/Laws/Operands.lean ====
section
/-! SUPPORT. Byte order and lengths (20_memory R76 to R79), what storing received bytes does to the buffer, and the size of the
candidate space. -/

namespace Sys2Proof

theorem Params.size_pos {p : Params} (h : p.Valid) : 0 < p.size :=
  Nat.mul_pos (Nat.mul_pos h.1.1 h.2.1.1.1) h.2.2.1.1.1

/-- The candidate space has at most 8192 candidates, so every index fits ci (R233). -/
theorem Params.size_le {p : Params} (h : p.Valid) : p.size ≤ 16 * 2 * 256 :=
  Nat.mul_le_mul (Nat.mul_le_mul h.1.2 h.2.1.1.2) h.2.2.1.1.2

namespace Machine

theorem crcLo_eq (c : Half) : crcLo c = c.extractLsb' 0 8 := by
  apply BitVec.eq_of_getLsbD_eq
  intro j hj
  simp [crcLo, hj]

theorem crcHi_eq (c : Half) : crcHi c = c.extractLsb' 8 8 := by
  apply BitVec.eq_of_getLsbD_eq
  intro j hj
  simp [crcHi, hj]

theorem loByte_eq (v : Half) : loByte v = v.extractLsb' 0 8 := crcLo_eq v

theorem hiByte_eq (v : Half) : hiByte v = v.extractLsb' 8 8 := crcHi_eq v

@[simp] theorem buildFrame_toList (a fc : Byte) (s n : Half) :
    (buildFrame a fc s n).toList = frameHeader a fc s n ++ crcTrailer (crc16 (frameHeader a fc s n)) := rfl

@[simp] theorem frameHeader_length (a fc : Byte) (s n : Half) : (frameHeader a fc s n).length = 6 := rfl

@[simp] theorem wantLen_eq (n : Nat) : wantLen n = 5 + 2 * n := by
  simp only [wantLen, Config.hdrLen]
  omega

/-- The bytes of a read land where they are told to, and nothing else moves (R184, R186). -/
theorem writeBytes_toList (r : List Byte) : ∀ (b : Vector Byte 21) (n : Nat), n + r.length ≤ 21 →
    (writeBytes b n r).toList = b.toList.take n ++ r ++ b.toList.drop (n + r.length) := by
  induction r with
  | nil => intro b n _; simp [writeBytes]
  | cons x xs ih =>
    intro b n h
    simp only [List.length_cons] at h
    rw [writeBytes, ih _ _ (by omega)]
    apply List.ext_getElem?
    intro i
    have hl : b.toList.length = 21 := by simp
    simp only [Vector.toList_setIfInBounds, List.getElem?_append, List.length_append, List.length_take, List.length_set,
      List.getElem?_take, List.getElem?_drop, List.getElem?_set, List.length_cons, hl, List.getElem?_cons]
    (repeat' split) <;> (try omega) <;> (try simp_all) <;> (congr 1; omega)

end Machine

end Sys2Proof
end

