-- ==== Sys2Proof/Laws/State.lean ====
section
/-! SUPPORT. One lemma per field per named update of the state, each true by unfolding, so that no later proof unfolds a
record update. -/

namespace Sys2Proof.Machine

/-! ### goto -/

@[simp] theorem State.goto_crc (s : State) (c : Ctl) : (s.goto c).crc = s.crc := rfl
@[simp] theorem State.goto_enc (s : State) (c : Ctl) : (s.goto c).enc = s.enc := rfl
@[simp] theorem State.goto_rx (s : State) (c : Ctl) : (s.goto c).rx = s.rx := rfl
@[simp] theorem State.goto_avail (s : State) (c : Ctl) : (s.goto c).avail = s.avail := rfl
@[simp] theorem State.goto_k (s : State) (c : Ctl) : (s.goto c).k = s.k := rfl
@[simp] theorem State.goto_dec (s : State) (c : Ctl) : (s.goto c).dec = s.dec := rfl
@[simp] theorem State.goto_cfg (s : State) (c : Ctl) : (s.goto c).cfg = s.cfg := rfl
@[simp] theorem State.goto_linkOpen (s : State) (c : Ctl) : (s.goto c).linkOpen = s.linkOpen := rfl
@[simp] theorem State.goto_ci (s : State) (c : Ctl) : (s.goto c).ci = s.ci := rfl
@[simp] theorem State.goto_ctl (s : State) (c : Ctl) : (s.goto c).ctl = c := rfl
@[simp] theorem State.goto_mode (s : State) (c : Ctl) : (s.goto c).mode = s.mode := rfl
@[simp] theorem State.goto_cur (s : State) (c : Ctl) : (s.goto c).cur = s.cur := rfl
@[simp] theorem State.goto_res (s : State) (c : Ctl) : (s.goto c).res = s.res := rfl
@[simp] theorem State.goto_reports (s : State) (c : Ctl) : (s.goto c).reports = s.reports := rfl
@[simp] theorem State.goto_params (s : State) (c : Ctl) : (s.goto c).params = s.params := rfl
@[simp] theorem State.goto_inputs (s : State) (c : Ctl) : (s.goto c).inputs = s.inputs := rfl
@[simp] theorem State.goto_transactions (s : State) (c : Ctl) : (s.goto c).transactions = s.transactions := rfl

/-! ### finish -/

@[simp] theorem State.finish_crc (s : State) (code : ResultCode) (a b : Byte) : (s.finish code a b).crc = s.crc := rfl
@[simp] theorem State.finish_enc (s : State) (code : ResultCode) (a b : Byte) : (s.finish code a b).enc = s.enc := rfl
@[simp] theorem State.finish_rx (s : State) (code : ResultCode) (a b : Byte) : (s.finish code a b).rx = s.rx := rfl
@[simp] theorem State.finish_avail (s : State) (code : ResultCode) (a b : Byte) : (s.finish code a b).avail = s.avail := rfl
@[simp] theorem State.finish_k (s : State) (code : ResultCode) (a b : Byte) : (s.finish code a b).k = s.k := rfl
@[simp] theorem State.finish_dec (s : State) (code : ResultCode) (a b : Byte) : (s.finish code a b).dec = s.dec := rfl
@[simp] theorem State.finish_cfg (s : State) (code : ResultCode) (a b : Byte) : (s.finish code a b).cfg = s.cfg := rfl
@[simp] theorem State.finish_linkOpen (s : State) (code : ResultCode) (a b : Byte) : (s.finish code a b).linkOpen = s.linkOpen := rfl
@[simp] theorem State.finish_ci (s : State) (code : ResultCode) (a b : Byte) : (s.finish code a b).ci = s.ci := rfl
@[simp] theorem State.finish_ctl (s : State) (code : ResultCode) (a b : Byte) : (s.finish code a b).ctl = s.ctl := rfl
@[simp] theorem State.finish_mode (s : State) (code : ResultCode) (a b : Byte) : (s.finish code a b).mode = s.mode := rfl
@[simp] theorem State.finish_cur (s : State) (code : ResultCode) (a b : Byte) : (s.finish code a b).cur = s.cur := rfl
@[simp] theorem State.finish_res (s : State) (code : ResultCode) (a b : Byte) : (s.finish code a b).res = ⟨code, a, b⟩ := rfl
@[simp] theorem State.finish_reports (s : State) (code : ResultCode) (a b : Byte) : (s.finish code a b).reports = s.reports := rfl
@[simp] theorem State.finish_params (s : State) (code : ResultCode) (a b : Byte) : (s.finish code a b).params = s.params := rfl
@[simp] theorem State.finish_inputs (s : State) (code : ResultCode) (a b : Byte) : (s.finish code a b).inputs = s.inputs := rfl
@[simp] theorem State.finish_transactions (s : State) (code : ResultCode) (a b : Byte) : (s.finish code a b).transactions = s.transactions := rfl

/-! ### emit -/

@[simp] theorem State.emit_crc (s : State) (r : Report) : (s.emit r).crc = s.crc := rfl
@[simp] theorem State.emit_enc (s : State) (r : Report) : (s.emit r).enc = s.enc := rfl
@[simp] theorem State.emit_rx (s : State) (r : Report) : (s.emit r).rx = s.rx := rfl
@[simp] theorem State.emit_avail (s : State) (r : Report) : (s.emit r).avail = s.avail := rfl
@[simp] theorem State.emit_k (s : State) (r : Report) : (s.emit r).k = s.k := rfl
@[simp] theorem State.emit_dec (s : State) (r : Report) : (s.emit r).dec = s.dec := rfl
@[simp] theorem State.emit_cfg (s : State) (r : Report) : (s.emit r).cfg = s.cfg := rfl
@[simp] theorem State.emit_linkOpen (s : State) (r : Report) : (s.emit r).linkOpen = s.linkOpen := rfl
@[simp] theorem State.emit_ci (s : State) (r : Report) : (s.emit r).ci = s.ci := rfl
@[simp] theorem State.emit_ctl (s : State) (r : Report) : (s.emit r).ctl = s.ctl := rfl
@[simp] theorem State.emit_mode (s : State) (r : Report) : (s.emit r).mode = s.mode := rfl
@[simp] theorem State.emit_cur (s : State) (r : Report) : (s.emit r).cur = s.cur := rfl
@[simp] theorem State.emit_res (s : State) (r : Report) : (s.emit r).res = s.res := rfl
@[simp] theorem State.emit_reports (s : State) (r : Report) : (s.emit r).reports = s.reports ++ [r] := rfl
@[simp] theorem State.emit_params (s : State) (r : Report) : (s.emit r).params = s.params := rfl
@[simp] theorem State.emit_inputs (s : State) (r : Report) : (s.emit r).inputs = s.inputs := rfl
@[simp] theorem State.emit_transactions (s : State) (r : Report) : (s.emit r).transactions = s.transactions := rfl

/-! ### issue -/

@[simp] theorem State.issue_crc (s : State) (x : Transaction) : (s.issue x).crc = s.crc := rfl
@[simp] theorem State.issue_enc (s : State) (x : Transaction) : (s.issue x).enc = s.enc := rfl
@[simp] theorem State.issue_rx (s : State) (x : Transaction) : (s.issue x).rx = s.rx := rfl
@[simp] theorem State.issue_avail (s : State) (x : Transaction) : (s.issue x).avail = s.avail := rfl
@[simp] theorem State.issue_k (s : State) (x : Transaction) : (s.issue x).k = s.k := rfl
@[simp] theorem State.issue_dec (s : State) (x : Transaction) : (s.issue x).dec = s.dec := rfl
@[simp] theorem State.issue_cfg (s : State) (x : Transaction) : (s.issue x).cfg = s.cfg := rfl
@[simp] theorem State.issue_linkOpen (s : State) (x : Transaction) : (s.issue x).linkOpen = s.linkOpen := rfl
@[simp] theorem State.issue_ci (s : State) (x : Transaction) : (s.issue x).ci = s.ci := rfl
@[simp] theorem State.issue_ctl (s : State) (x : Transaction) : (s.issue x).ctl = s.ctl := rfl
@[simp] theorem State.issue_mode (s : State) (x : Transaction) : (s.issue x).mode = s.mode := rfl
@[simp] theorem State.issue_cur (s : State) (x : Transaction) : (s.issue x).cur = s.cur := rfl
@[simp] theorem State.issue_res (s : State) (x : Transaction) : (s.issue x).res = s.res := rfl
@[simp] theorem State.issue_reports (s : State) (x : Transaction) : (s.issue x).reports = s.reports := rfl
@[simp] theorem State.issue_params (s : State) (x : Transaction) : (s.issue x).params = s.params := rfl
@[simp] theorem State.issue_inputs (s : State) (x : Transaction) : (s.issue x).inputs = s.inputs := rfl
@[simp] theorem State.issue_transactions (s : State) (x : Transaction) : (s.issue x).transactions = s.transactions ++ [x] := rfl

/-! ### latch -/

@[simp] theorem State.latch_crc (s : State) (w : CommandWord) : (s.latch w).crc = s.crc := rfl
@[simp] theorem State.latch_enc (s : State) (w : CommandWord) : (s.latch w).enc = s.enc := rfl
@[simp] theorem State.latch_rx (s : State) (w : CommandWord) : (s.latch w).rx = s.rx := rfl
@[simp] theorem State.latch_avail (s : State) (w : CommandWord) : (s.latch w).avail = s.avail := rfl
@[simp] theorem State.latch_k (s : State) (w : CommandWord) : (s.latch w).k = s.k := rfl
@[simp] theorem State.latch_dec (s : State) (w : CommandWord) : (s.latch w).dec = s.dec := rfl
@[simp] theorem State.latch_cfg (s : State) (w : CommandWord) : (s.latch w).cfg = s.cfg := rfl
@[simp] theorem State.latch_linkOpen (s : State) (w : CommandWord) : (s.latch w).linkOpen = s.linkOpen := rfl
@[simp] theorem State.latch_ci (s : State) (w : CommandWord) : (s.latch w).ci = s.ci := rfl
@[simp] theorem State.latch_ctl (s : State) (w : CommandWord) : (s.latch w).ctl = s.ctl := rfl
@[simp] theorem State.latch_mode (s : State) (w : CommandWord) : (s.latch w).mode = .cmd := rfl
@[simp] theorem State.latch_cur (s : State) (w : CommandWord) : (s.latch w).cur = w := rfl
@[simp] theorem State.latch_res (s : State) (w : CommandWord) : (s.latch w).res = s.res := rfl
@[simp] theorem State.latch_reports (s : State) (w : CommandWord) : (s.latch w).reports = s.reports := rfl
@[simp] theorem State.latch_params (s : State) (w : CommandWord) : (s.latch w).params = s.params := rfl
@[simp] theorem State.latch_inputs (s : State) (w : CommandWord) : (s.latch w).inputs = s.inputs := rfl
@[simp] theorem State.latch_transactions (s : State) (w : CommandWord) : (s.latch w).transactions = s.transactions := rfl

/-! ### complete -/

@[simp] theorem State.complete_crc (s : State) (op : Byte) (code : ResultCode) (a b : Byte) : (s.complete op code a b).crc = s.crc := rfl
@[simp] theorem State.complete_enc (s : State) (op : Byte) (code : ResultCode) (a b : Byte) : (s.complete op code a b).enc = s.enc := rfl
@[simp] theorem State.complete_rx (s : State) (op : Byte) (code : ResultCode) (a b : Byte) : (s.complete op code a b).rx = s.rx := rfl
@[simp] theorem State.complete_avail (s : State) (op : Byte) (code : ResultCode) (a b : Byte) : (s.complete op code a b).avail = s.avail := rfl
@[simp] theorem State.complete_k (s : State) (op : Byte) (code : ResultCode) (a b : Byte) : (s.complete op code a b).k = s.k := rfl
@[simp] theorem State.complete_dec (s : State) (op : Byte) (code : ResultCode) (a b : Byte) : (s.complete op code a b).dec = s.dec := rfl
@[simp] theorem State.complete_cfg (s : State) (op : Byte) (code : ResultCode) (a b : Byte) : (s.complete op code a b).cfg = s.cfg := rfl
@[simp] theorem State.complete_linkOpen (s : State) (op : Byte) (code : ResultCode) (a b : Byte) : (s.complete op code a b).linkOpen = s.linkOpen := rfl
@[simp] theorem State.complete_ci (s : State) (op : Byte) (code : ResultCode) (a b : Byte) : (s.complete op code a b).ci = s.ci := rfl
@[simp] theorem State.complete_ctl (s : State) (op : Byte) (code : ResultCode) (a b : Byte) : (s.complete op code a b).ctl = .idle := rfl
@[simp] theorem State.complete_mode (s : State) (op : Byte) (code : ResultCode) (a b : Byte) : (s.complete op code a b).mode = s.mode := rfl
@[simp] theorem State.complete_cur (s : State) (op : Byte) (code : ResultCode) (a b : Byte) : (s.complete op code a b).cur = s.cur := rfl
@[simp] theorem State.complete_res (s : State) (op : Byte) (code : ResultCode) (a b : Byte) : (s.complete op code a b).res = ⟨code, a, b⟩ := rfl
@[simp] theorem State.complete_reports (s : State) (op : Byte) (code : ResultCode) (a b : Byte) : (s.complete op code a b).reports = s.reports ++ [.cmdDone op code a b] := rfl
@[simp] theorem State.complete_params (s : State) (op : Byte) (code : ResultCode) (a b : Byte) : (s.complete op code a b).params = s.params := rfl
@[simp] theorem State.complete_inputs (s : State) (op : Byte) (code : ResultCode) (a b : Byte) : (s.complete op code a b).inputs = s.inputs := rfl
@[simp] theorem State.complete_transactions (s : State) (op : Byte) (code : ResultCode) (a b : Byte) : (s.complete op code a b).transactions = s.transactions := rfl

/-! ### refuse -/

@[simp] theorem State.refuse_crc (s : State) : s.refuse.crc = s.crc := rfl
@[simp] theorem State.refuse_enc (s : State) : s.refuse.enc = s.enc := rfl
@[simp] theorem State.refuse_rx (s : State) : s.refuse.rx = s.rx := rfl
@[simp] theorem State.refuse_avail (s : State) : s.refuse.avail = s.avail := rfl
@[simp] theorem State.refuse_k (s : State) : s.refuse.k = s.k := rfl
@[simp] theorem State.refuse_dec (s : State) : s.refuse.dec = s.dec := rfl
@[simp] theorem State.refuse_cfg (s : State) : s.refuse.cfg = s.cfg := rfl
@[simp] theorem State.refuse_linkOpen (s : State) : s.refuse.linkOpen = s.linkOpen := rfl
@[simp] theorem State.refuse_ci (s : State) : s.refuse.ci = s.ci := rfl
@[simp] theorem State.refuse_ctl (s : State) : s.refuse.ctl = .idle := rfl
@[simp] theorem State.refuse_mode (s : State) : s.refuse.mode = s.mode := rfl
@[simp] theorem State.refuse_cur (s : State) : s.refuse.cur = s.cur := rfl
@[simp] theorem State.refuse_res (s : State) : s.refuse.res = ⟨.cmdRefused, 0, 0⟩ := rfl
@[simp] theorem State.refuse_reports (s : State) : s.refuse.reports = s.reports ++ [.cmdDone s.cur.op .cmdRefused 0 0] := rfl
@[simp] theorem State.refuse_params (s : State) : s.refuse.params = s.params := rfl
@[simp] theorem State.refuse_inputs (s : State) : s.refuse.inputs = s.inputs := rfl
@[simp] theorem State.refuse_transactions (s : State) : s.refuse.transactions = s.transactions := rfl

/-! ### refuseBusy -/

@[simp] theorem State.refuseBusy_crc (s : State) (op : Byte) : (s.refuseBusy op).crc = s.crc := rfl
@[simp] theorem State.refuseBusy_enc (s : State) (op : Byte) : (s.refuseBusy op).enc = s.enc := rfl
@[simp] theorem State.refuseBusy_rx (s : State) (op : Byte) : (s.refuseBusy op).rx = s.rx := rfl
@[simp] theorem State.refuseBusy_avail (s : State) (op : Byte) : (s.refuseBusy op).avail = s.avail := rfl
@[simp] theorem State.refuseBusy_k (s : State) (op : Byte) : (s.refuseBusy op).k = s.k := rfl
@[simp] theorem State.refuseBusy_dec (s : State) (op : Byte) : (s.refuseBusy op).dec = s.dec := rfl
@[simp] theorem State.refuseBusy_cfg (s : State) (op : Byte) : (s.refuseBusy op).cfg = s.cfg := rfl
@[simp] theorem State.refuseBusy_linkOpen (s : State) (op : Byte) : (s.refuseBusy op).linkOpen = s.linkOpen := rfl
@[simp] theorem State.refuseBusy_ci (s : State) (op : Byte) : (s.refuseBusy op).ci = s.ci := rfl
@[simp] theorem State.refuseBusy_ctl (s : State) (op : Byte) : (s.refuseBusy op).ctl = s.ctl := rfl
@[simp] theorem State.refuseBusy_mode (s : State) (op : Byte) : (s.refuseBusy op).mode = s.mode := rfl
@[simp] theorem State.refuseBusy_cur (s : State) (op : Byte) : (s.refuseBusy op).cur = s.cur := rfl
@[simp] theorem State.refuseBusy_res (s : State) (op : Byte) : (s.refuseBusy op).res = ⟨.cmdRefused, 0, 0⟩ := rfl
@[simp] theorem State.refuseBusy_reports (s : State) (op : Byte) : (s.refuseBusy op).reports = s.reports ++ [.cmdDone op .cmdRefused 0 0] := rfl
@[simp] theorem State.refuseBusy_params (s : State) (op : Byte) : (s.refuseBusy op).params = s.params := rfl
@[simp] theorem State.refuseBusy_inputs (s : State) (op : Byte) : (s.refuseBusy op).inputs = s.inputs := rfl
@[simp] theorem State.refuseBusy_transactions (s : State) (op : Byte) : (s.refuseBusy op).transactions = s.transactions := rfl

/-! ### fatal -/

@[simp] theorem State.fatal_crc (s : State) (code : ResultCode) : (s.fatal code).crc = s.crc := rfl
@[simp] theorem State.fatal_enc (s : State) (code : ResultCode) : (s.fatal code).enc = s.enc := rfl
@[simp] theorem State.fatal_rx (s : State) (code : ResultCode) : (s.fatal code).rx = s.rx := rfl
@[simp] theorem State.fatal_avail (s : State) (code : ResultCode) : (s.fatal code).avail = s.avail := rfl
@[simp] theorem State.fatal_k (s : State) (code : ResultCode) : (s.fatal code).k = s.k := rfl
@[simp] theorem State.fatal_dec (s : State) (code : ResultCode) : (s.fatal code).dec = s.dec := rfl
@[simp] theorem State.fatal_cfg (s : State) (code : ResultCode) : (s.fatal code).cfg = s.cfg := rfl
@[simp] theorem State.fatal_linkOpen (s : State) (code : ResultCode) : (s.fatal code).linkOpen = s.linkOpen := rfl
@[simp] theorem State.fatal_ci (s : State) (code : ResultCode) : (s.fatal code).ci = s.ci := rfl
@[simp] theorem State.fatal_ctl (s : State) (code : ResultCode) : (s.fatal code).ctl = .fatal := rfl
@[simp] theorem State.fatal_mode (s : State) (code : ResultCode) : (s.fatal code).mode = s.mode := rfl
@[simp] theorem State.fatal_cur (s : State) (code : ResultCode) : (s.fatal code).cur = s.cur := rfl
@[simp] theorem State.fatal_res (s : State) (code : ResultCode) : (s.fatal code).res = ⟨code, 0, 0⟩ := rfl
@[simp] theorem State.fatal_reports (s : State) (code : ResultCode) : (s.fatal code).reports = s.reports ++ [.fatal code] := rfl
@[simp] theorem State.fatal_params (s : State) (code : ResultCode) : (s.fatal code).params = s.params := rfl
@[simp] theorem State.fatal_inputs (s : State) (code : ResultCode) : (s.fatal code).inputs = s.inputs := rfl
@[simp] theorem State.fatal_transactions (s : State) (code : ResultCode) : (s.fatal code).transactions = s.transactions := rfl

/-! ### loadTx -/

@[simp] theorem State.loadTx_crc (s : State) (a fc : Byte) (start n : Half) : (s.loadTx a fc start n).crc = crc16 (frameHeader a fc start n) := rfl
@[simp] theorem State.loadTx_enc (s : State) (a fc : Byte) (start n : Half) : (s.loadTx a fc start n).enc = ⟨buildFrame a fc start n, true⟩ := rfl
@[simp] theorem State.loadTx_rx (s : State) (a fc : Byte) (start n : Half) : (s.loadTx a fc start n).rx = s.rx := rfl
@[simp] theorem State.loadTx_avail (s : State) (a fc : Byte) (start n : Half) : (s.loadTx a fc start n).avail = s.avail := rfl
@[simp] theorem State.loadTx_k (s : State) (a fc : Byte) (start n : Half) : (s.loadTx a fc start n).k = s.k := rfl
@[simp] theorem State.loadTx_dec (s : State) (a fc : Byte) (start n : Half) : (s.loadTx a fc start n).dec = s.dec := rfl
@[simp] theorem State.loadTx_cfg (s : State) (a fc : Byte) (start n : Half) : (s.loadTx a fc start n).cfg = s.cfg := rfl
@[simp] theorem State.loadTx_linkOpen (s : State) (a fc : Byte) (start n : Half) : (s.loadTx a fc start n).linkOpen = s.linkOpen := rfl
@[simp] theorem State.loadTx_ci (s : State) (a fc : Byte) (start n : Half) : (s.loadTx a fc start n).ci = s.ci := rfl
@[simp] theorem State.loadTx_ctl (s : State) (a fc : Byte) (start n : Half) : (s.loadTx a fc start n).ctl = s.ctl := rfl
@[simp] theorem State.loadTx_mode (s : State) (a fc : Byte) (start n : Half) : (s.loadTx a fc start n).mode = s.mode := rfl
@[simp] theorem State.loadTx_cur (s : State) (a fc : Byte) (start n : Half) : (s.loadTx a fc start n).cur = s.cur := rfl
@[simp] theorem State.loadTx_res (s : State) (a fc : Byte) (start n : Half) : (s.loadTx a fc start n).res = s.res := rfl
@[simp] theorem State.loadTx_reports (s : State) (a fc : Byte) (start n : Half) : (s.loadTx a fc start n).reports = s.reports := rfl
@[simp] theorem State.loadTx_params (s : State) (a fc : Byte) (start n : Half) : (s.loadTx a fc start n).params = s.params := rfl
@[simp] theorem State.loadTx_inputs (s : State) (a fc : Byte) (start n : Half) : (s.loadTx a fc start n).inputs = s.inputs := rfl
@[simp] theorem State.loadTx_transactions (s : State) (a fc : Byte) (start n : Half) : (s.loadTx a fc start n).transactions = s.transactions := rfl

/-! ### gotoSend -/

@[simp] theorem State.gotoSend_crc (s : State) (d w : Ctl) : (s.gotoSend d w).crc = s.crc := rfl
@[simp] theorem State.gotoSend_enc (s : State) (d w : Ctl) : (s.gotoSend d w).enc = s.enc := rfl
@[simp] theorem State.gotoSend_rx (s : State) (d w : Ctl) : (s.gotoSend d w).rx = s.rx := rfl
@[simp] theorem State.gotoSend_avail (s : State) (d w : Ctl) : (s.gotoSend d w).avail = s.avail := rfl
@[simp] theorem State.gotoSend_k (s : State) (d w : Ctl) : (s.gotoSend d w).k = s.k := rfl
@[simp] theorem State.gotoSend_dec (s : State) (d w : Ctl) : (s.gotoSend d w).dec = s.dec := rfl
@[simp] theorem State.gotoSend_cfg (s : State) (d w : Ctl) : (s.gotoSend d w).cfg = s.cfg := rfl
@[simp] theorem State.gotoSend_linkOpen (s : State) (d w : Ctl) : (s.gotoSend d w).linkOpen = s.linkOpen := rfl
@[simp] theorem State.gotoSend_ci (s : State) (d w : Ctl) : (s.gotoSend d w).ci = s.ci := rfl
@[simp] theorem State.gotoSend_ctl (s : State) (d w : Ctl) : (s.gotoSend d w).ctl = if s.params.discardBeforeSend then d else w := rfl
@[simp] theorem State.gotoSend_mode (s : State) (d w : Ctl) : (s.gotoSend d w).mode = s.mode := rfl
@[simp] theorem State.gotoSend_cur (s : State) (d w : Ctl) : (s.gotoSend d w).cur = s.cur := rfl
@[simp] theorem State.gotoSend_res (s : State) (d w : Ctl) : (s.gotoSend d w).res = s.res := rfl
@[simp] theorem State.gotoSend_reports (s : State) (d w : Ctl) : (s.gotoSend d w).reports = s.reports := rfl
@[simp] theorem State.gotoSend_params (s : State) (d w : Ctl) : (s.gotoSend d w).params = s.params := rfl
@[simp] theorem State.gotoSend_inputs (s : State) (d w : Ctl) : (s.gotoSend d w).inputs = s.inputs := rfl
@[simp] theorem State.gotoSend_transactions (s : State) (d w : Ctl) : (s.gotoSend d w).transactions = s.transactions := rfl

/-! ### rxBegin -/

@[simp] theorem State.rxBegin_crc (s : State) (n : Half) : (s.rxBegin n).crc = s.crc := rfl
@[simp] theorem State.rxBegin_enc (s : State) (n : Half) : (s.rxBegin n).enc = s.enc := rfl
@[simp] theorem State.rxBegin_rx (s : State) (n : Half) : (s.rxBegin n).rx = ⟨s.rx.rxbuf, 0, BitVec.ofNat 8 (wantLen n.toNat), n.setWidth 8, false⟩ := rfl
@[simp] theorem State.rxBegin_avail (s : State) (n : Half) : (s.rxBegin n).avail = 0 := rfl
@[simp] theorem State.rxBegin_k (s : State) (n : Half) : (s.rxBegin n).k = 0 := rfl
@[simp] theorem State.rxBegin_dec (s : State) (n : Half) : (s.rxBegin n).dec = ⟨s.dec.record, false⟩ := rfl
@[simp] theorem State.rxBegin_cfg (s : State) (n : Half) : (s.rxBegin n).cfg = s.cfg := rfl
@[simp] theorem State.rxBegin_linkOpen (s : State) (n : Half) : (s.rxBegin n).linkOpen = s.linkOpen := rfl
@[simp] theorem State.rxBegin_ci (s : State) (n : Half) : (s.rxBegin n).ci = s.ci := rfl
@[simp] theorem State.rxBegin_ctl (s : State) (n : Half) : (s.rxBegin n).ctl = .raDelay := rfl
@[simp] theorem State.rxBegin_mode (s : State) (n : Half) : (s.rxBegin n).mode = s.mode := rfl
@[simp] theorem State.rxBegin_cur (s : State) (n : Half) : (s.rxBegin n).cur = s.cur := rfl
@[simp] theorem State.rxBegin_res (s : State) (n : Half) : (s.rxBegin n).res = s.res := rfl
@[simp] theorem State.rxBegin_reports (s : State) (n : Half) : (s.rxBegin n).reports = s.reports := rfl
@[simp] theorem State.rxBegin_params (s : State) (n : Half) : (s.rxBegin n).params = s.params := rfl
@[simp] theorem State.rxBegin_inputs (s : State) (n : Half) : (s.rxBegin n).inputs = s.inputs := rfl
@[simp] theorem State.rxBegin_transactions (s : State) (n : Half) : (s.rxBegin n).transactions = s.transactions := rfl

/-! ### decodeIntoM -/

@[simp] theorem State.decodeIntoM_crc (s : State) : s.decodeIntoM.crc = s.crc := rfl
@[simp] theorem State.decodeIntoM_enc (s : State) : s.decodeIntoM.enc = s.enc := rfl
@[simp] theorem State.decodeIntoM_rx (s : State) : s.decodeIntoM.rx = s.rx := rfl
@[simp] theorem State.decodeIntoM_avail (s : State) : s.decodeIntoM.avail = s.avail := rfl
@[simp] theorem State.decodeIntoM_k (s : State) : s.decodeIntoM.k = s.k := rfl
@[simp] theorem State.decodeIntoM_dec (s : State) : s.decodeIntoM.dec = ⟨decodeRecord s.rx.rxbuf, true⟩ := rfl
@[simp] theorem State.decodeIntoM_cfg (s : State) : s.decodeIntoM.cfg = s.cfg := rfl
@[simp] theorem State.decodeIntoM_linkOpen (s : State) : s.decodeIntoM.linkOpen = s.linkOpen := rfl
@[simp] theorem State.decodeIntoM_ci (s : State) : s.decodeIntoM.ci = s.ci := rfl
@[simp] theorem State.decodeIntoM_ctl (s : State) : s.decodeIntoM.ctl = s.ctl := rfl
@[simp] theorem State.decodeIntoM_mode (s : State) : s.decodeIntoM.mode = s.mode := rfl
@[simp] theorem State.decodeIntoM_cur (s : State) : s.decodeIntoM.cur = s.cur := rfl
@[simp] theorem State.decodeIntoM_res (s : State) : s.decodeIntoM.res = s.res := rfl
@[simp] theorem State.decodeIntoM_reports (s : State) : s.decodeIntoM.reports = s.reports := rfl
@[simp] theorem State.decodeIntoM_params (s : State) : s.decodeIntoM.params = s.params := rfl
@[simp] theorem State.decodeIntoM_inputs (s : State) : s.decodeIntoM.inputs = s.inputs := rfl
@[simp] theorem State.decodeIntoM_transactions (s : State) : s.decodeIntoM.transactions = s.transactions := rfl

/-! ### storeBytes -/

@[simp] theorem State.storeBytes_crc (s : State) (r : List Byte) : (s.storeBytes r).crc = s.crc := rfl
@[simp] theorem State.storeBytes_enc (s : State) (r : List Byte) : (s.storeBytes r).enc = s.enc := rfl
@[simp] theorem State.storeBytes_rx (s : State) (r : List Byte) : (s.storeBytes r).rx = ⟨writeBytes s.rx.rxbuf s.rx.rxLen.toNat r, s.rx.rxLen + BitVec.ofNat 8 r.length, s.rx.rxWant, s.rx.rxN, s.rx.rxOk⟩ := rfl
@[simp] theorem State.storeBytes_avail (s : State) (r : List Byte) : (s.storeBytes r).avail = s.avail := rfl
@[simp] theorem State.storeBytes_k (s : State) (r : List Byte) : (s.storeBytes r).k = s.k := rfl
@[simp] theorem State.storeBytes_dec (s : State) (r : List Byte) : (s.storeBytes r).dec = s.dec := rfl
@[simp] theorem State.storeBytes_cfg (s : State) (r : List Byte) : (s.storeBytes r).cfg = s.cfg := rfl
@[simp] theorem State.storeBytes_linkOpen (s : State) (r : List Byte) : (s.storeBytes r).linkOpen = s.linkOpen := rfl
@[simp] theorem State.storeBytes_ci (s : State) (r : List Byte) : (s.storeBytes r).ci = s.ci := rfl
@[simp] theorem State.storeBytes_ctl (s : State) (r : List Byte) : (s.storeBytes r).ctl = s.ctl := rfl
@[simp] theorem State.storeBytes_mode (s : State) (r : List Byte) : (s.storeBytes r).mode = s.mode := rfl
@[simp] theorem State.storeBytes_cur (s : State) (r : List Byte) : (s.storeBytes r).cur = s.cur := rfl
@[simp] theorem State.storeBytes_res (s : State) (r : List Byte) : (s.storeBytes r).res = s.res := rfl
@[simp] theorem State.storeBytes_reports (s : State) (r : List Byte) : (s.storeBytes r).reports = s.reports := rfl
@[simp] theorem State.storeBytes_params (s : State) (r : List Byte) : (s.storeBytes r).params = s.params := rfl
@[simp] theorem State.storeBytes_inputs (s : State) (r : List Byte) : (s.storeBytes r).inputs = s.inputs := rfl
@[simp] theorem State.storeBytes_transactions (s : State) (r : List Byte) : (s.storeBytes r).transactions = s.transactions := rfl

/-! ### tick -/

@[simp] theorem State.tick_crc (s : State) (c : Ctl) : (s.tick c).crc = s.crc := rfl
@[simp] theorem State.tick_enc (s : State) (c : Ctl) : (s.tick c).enc = s.enc := rfl
@[simp] theorem State.tick_rx (s : State) (c : Ctl) : (s.tick c).rx = s.rx := rfl
@[simp] theorem State.tick_avail (s : State) (c : Ctl) : (s.tick c).avail = s.avail := rfl
@[simp] theorem State.tick_k (s : State) (c : Ctl) : (s.tick c).k = s.k + 1 := rfl
@[simp] theorem State.tick_dec (s : State) (c : Ctl) : (s.tick c).dec = s.dec := rfl
@[simp] theorem State.tick_cfg (s : State) (c : Ctl) : (s.tick c).cfg = s.cfg := rfl
@[simp] theorem State.tick_linkOpen (s : State) (c : Ctl) : (s.tick c).linkOpen = s.linkOpen := rfl
@[simp] theorem State.tick_ci (s : State) (c : Ctl) : (s.tick c).ci = s.ci := rfl
@[simp] theorem State.tick_ctl (s : State) (c : Ctl) : (s.tick c).ctl = c := rfl
@[simp] theorem State.tick_mode (s : State) (c : Ctl) : (s.tick c).mode = s.mode := rfl
@[simp] theorem State.tick_cur (s : State) (c : Ctl) : (s.tick c).cur = s.cur := rfl
@[simp] theorem State.tick_res (s : State) (c : Ctl) : (s.tick c).res = s.res := rfl
@[simp] theorem State.tick_reports (s : State) (c : Ctl) : (s.tick c).reports = s.reports := rfl
@[simp] theorem State.tick_params (s : State) (c : Ctl) : (s.tick c).params = s.params := rfl
@[simp] theorem State.tick_inputs (s : State) (c : Ctl) : (s.tick c).inputs = s.inputs := rfl
@[simp] theorem State.tick_transactions (s : State) (c : Ctl) : (s.tick c).transactions = s.transactions := rfl

/-! ### setAvail -/

@[simp] theorem State.setAvail_crc (s : State) (n : Nat) : (s.setAvail n).crc = s.crc := rfl
@[simp] theorem State.setAvail_enc (s : State) (n : Nat) : (s.setAvail n).enc = s.enc := rfl
@[simp] theorem State.setAvail_rx (s : State) (n : Nat) : (s.setAvail n).rx = s.rx := rfl
@[simp] theorem State.setAvail_avail (s : State) (n : Nat) : (s.setAvail n).avail = n := rfl
@[simp] theorem State.setAvail_k (s : State) (n : Nat) : (s.setAvail n).k = s.k := rfl
@[simp] theorem State.setAvail_dec (s : State) (n : Nat) : (s.setAvail n).dec = s.dec := rfl
@[simp] theorem State.setAvail_cfg (s : State) (n : Nat) : (s.setAvail n).cfg = s.cfg := rfl
@[simp] theorem State.setAvail_linkOpen (s : State) (n : Nat) : (s.setAvail n).linkOpen = s.linkOpen := rfl
@[simp] theorem State.setAvail_ci (s : State) (n : Nat) : (s.setAvail n).ci = s.ci := rfl
@[simp] theorem State.setAvail_ctl (s : State) (n : Nat) : (s.setAvail n).ctl = s.ctl := rfl
@[simp] theorem State.setAvail_mode (s : State) (n : Nat) : (s.setAvail n).mode = s.mode := rfl
@[simp] theorem State.setAvail_cur (s : State) (n : Nat) : (s.setAvail n).cur = s.cur := rfl
@[simp] theorem State.setAvail_res (s : State) (n : Nat) : (s.setAvail n).res = s.res := rfl
@[simp] theorem State.setAvail_reports (s : State) (n : Nat) : (s.setAvail n).reports = s.reports := rfl
@[simp] theorem State.setAvail_params (s : State) (n : Nat) : (s.setAvail n).params = s.params := rfl
@[simp] theorem State.setAvail_inputs (s : State) (n : Nat) : (s.setAvail n).inputs = s.inputs := rfl
@[simp] theorem State.setAvail_transactions (s : State) (n : Nat) : (s.setAvail n).transactions = s.transactions := rfl

/-! ### openLink -/

@[simp] theorem State.openLink_crc (s : State) : s.openLink.crc = s.crc := rfl
@[simp] theorem State.openLink_enc (s : State) : s.openLink.enc = s.enc := rfl
@[simp] theorem State.openLink_rx (s : State) : s.openLink.rx = s.rx := rfl
@[simp] theorem State.openLink_avail (s : State) : s.openLink.avail = s.avail := rfl
@[simp] theorem State.openLink_k (s : State) : s.openLink.k = s.k := rfl
@[simp] theorem State.openLink_dec (s : State) : s.openLink.dec = s.dec := rfl
@[simp] theorem State.openLink_cfg (s : State) : s.openLink.cfg = s.cfg := rfl
@[simp] theorem State.openLink_linkOpen (s : State) : s.openLink.linkOpen = true := rfl
@[simp] theorem State.openLink_ci (s : State) : s.openLink.ci = s.ci := rfl
@[simp] theorem State.openLink_ctl (s : State) : s.openLink.ctl = s.ctl := rfl
@[simp] theorem State.openLink_mode (s : State) : s.openLink.mode = s.mode := rfl
@[simp] theorem State.openLink_cur (s : State) : s.openLink.cur = s.cur := rfl
@[simp] theorem State.openLink_res (s : State) : s.openLink.res = s.res := rfl
@[simp] theorem State.openLink_reports (s : State) : s.openLink.reports = s.reports := rfl
@[simp] theorem State.openLink_params (s : State) : s.openLink.params = s.params := rfl
@[simp] theorem State.openLink_inputs (s : State) : s.openLink.inputs = s.inputs := rfl
@[simp] theorem State.openLink_transactions (s : State) : s.openLink.transactions = s.transactions := rfl

/-! ### probeBegin -/

@[simp] theorem State.probeBegin_crc (s : State) (i : Half) : (s.probeBegin i).crc = s.crc := rfl
@[simp] theorem State.probeBegin_enc (s : State) (i : Half) : (s.probeBegin i).enc = s.enc := rfl
@[simp] theorem State.probeBegin_rx (s : State) (i : Half) : (s.probeBegin i).rx = s.rx := rfl
@[simp] theorem State.probeBegin_avail (s : State) (i : Half) : (s.probeBegin i).avail = s.avail := rfl
@[simp] theorem State.probeBegin_k (s : State) (i : Half) : (s.probeBegin i).k = s.k := rfl
@[simp] theorem State.probeBegin_dec (s : State) (i : Half) : (s.probeBegin i).dec = s.dec := rfl
@[simp] theorem State.probeBegin_cfg (s : State) (i : Half) : (s.probeBegin i).cfg = s.cfg := rfl
@[simp] theorem State.probeBegin_linkOpen (s : State) (i : Half) : (s.probeBegin i).linkOpen = s.linkOpen := rfl
@[simp] theorem State.probeBegin_ci (s : State) (i : Half) : (s.probeBegin i).ci = i := rfl
@[simp] theorem State.probeBegin_ctl (s : State) (i : Half) : (s.probeBegin i).ctl = .qConf := rfl
@[simp] theorem State.probeBegin_mode (s : State) (i : Half) : (s.probeBegin i).mode = s.mode := rfl
@[simp] theorem State.probeBegin_cur (s : State) (i : Half) : (s.probeBegin i).cur = s.cur := rfl
@[simp] theorem State.probeBegin_res (s : State) (i : Half) : (s.probeBegin i).res = s.res := rfl
@[simp] theorem State.probeBegin_reports (s : State) (i : Half) : (s.probeBegin i).reports = s.reports := rfl
@[simp] theorem State.probeBegin_params (s : State) (i : Half) : (s.probeBegin i).params = s.params := rfl
@[simp] theorem State.probeBegin_inputs (s : State) (i : Half) : (s.probeBegin i).inputs = s.inputs := rfl
@[simp] theorem State.probeBegin_transactions (s : State) (i : Half) : (s.probeBegin i).transactions = s.transactions := rfl

/-! ### found -/

@[simp] theorem State.found_crc (s : State) (c : Candidate) : (s.found c).crc = s.crc := rfl
@[simp] theorem State.found_enc (s : State) (c : Candidate) : (s.found c).enc = s.enc := rfl
@[simp] theorem State.found_rx (s : State) (c : Candidate) : (s.found c).rx = s.rx := rfl
@[simp] theorem State.found_avail (s : State) (c : Candidate) : (s.found c).avail = s.avail := rfl
@[simp] theorem State.found_k (s : State) (c : Candidate) : (s.found c).k = s.k := rfl
@[simp] theorem State.found_dec (s : State) (c : Candidate) : (s.found c).dec = s.dec := rfl
@[simp] theorem State.found_cfg (s : State) (c : Candidate) : (s.found c).cfg = ⟨c.f, c.driver, c.address, s.ci, true⟩ := rfl
@[simp] theorem State.found_linkOpen (s : State) (c : Candidate) : (s.found c).linkOpen = s.linkOpen := rfl
@[simp] theorem State.found_ci (s : State) (c : Candidate) : (s.found c).ci = s.ci := rfl
@[simp] theorem State.found_ctl (s : State) (c : Candidate) : (s.found c).ctl = .qFdisc := rfl
@[simp] theorem State.found_mode (s : State) (c : Candidate) : (s.found c).mode = s.mode := rfl
@[simp] theorem State.found_cur (s : State) (c : Candidate) : (s.found c).cur = s.cur := rfl
@[simp] theorem State.found_res (s : State) (c : Candidate) : (s.found c).res = s.res := rfl
@[simp] theorem State.found_reports (s : State) (c : Candidate) : (s.found c).reports = s.reports ++ [.found c.f c.driver c.address s.ci] := rfl
@[simp] theorem State.found_params (s : State) (c : Candidate) : (s.found c).params = s.params := rfl
@[simp] theorem State.found_inputs (s : State) (c : Candidate) : (s.found c).inputs = s.inputs := rfl
@[simp] theorem State.found_transactions (s : State) (c : Candidate) : (s.found c).transactions = s.transactions := rfl

/-! ### pollBegin -/

@[simp] theorem State.pollBegin_crc (s : State) : s.pollBegin.crc = crc16 (frameHeader s.cfg.a 0x04 0 8) := rfl
@[simp] theorem State.pollBegin_enc (s : State) : s.pollBegin.enc = ⟨buildFrame s.cfg.a 0x04 0 8, true⟩ := rfl
@[simp] theorem State.pollBegin_rx (s : State) : s.pollBegin.rx = s.rx := rfl
@[simp] theorem State.pollBegin_avail (s : State) : s.pollBegin.avail = s.avail := rfl
@[simp] theorem State.pollBegin_k (s : State) : s.pollBegin.k = s.k := rfl
@[simp] theorem State.pollBegin_dec (s : State) : s.pollBegin.dec = s.dec := rfl
@[simp] theorem State.pollBegin_cfg (s : State) : s.pollBegin.cfg = s.cfg := rfl
@[simp] theorem State.pollBegin_linkOpen (s : State) : s.pollBegin.linkOpen = s.linkOpen := rfl
@[simp] theorem State.pollBegin_ci (s : State) : s.pollBegin.ci = s.ci := rfl
@[simp] theorem State.pollBegin_ctl (s : State) : s.pollBegin.ctl = if s.params.discardBeforeSend then .sDisc else .sWrite := rfl
@[simp] theorem State.pollBegin_mode (s : State) : s.pollBegin.mode = s.mode := rfl
@[simp] theorem State.pollBegin_cur (s : State) : s.pollBegin.cur = s.cur := rfl
@[simp] theorem State.pollBegin_res (s : State) : s.pollBegin.res = s.res := rfl
@[simp] theorem State.pollBegin_reports (s : State) : s.pollBegin.reports = s.reports := rfl
@[simp] theorem State.pollBegin_params (s : State) : s.pollBegin.params = s.params := rfl
@[simp] theorem State.pollBegin_inputs (s : State) : s.pollBegin.inputs = s.inputs := rfl
@[simp] theorem State.pollBegin_transactions (s : State) : s.pollBegin.transactions = s.transactions := rfl

/-! ### exhaust -/

@[simp] theorem State.exhaust_crc (s : State) : s.exhaust.crc = s.crc := rfl
@[simp] theorem State.exhaust_enc (s : State) : s.exhaust.enc = s.enc := rfl
@[simp] theorem State.exhaust_rx (s : State) : s.exhaust.rx = s.rx := rfl
@[simp] theorem State.exhaust_avail (s : State) : s.exhaust.avail = s.avail := rfl
@[simp] theorem State.exhaust_k (s : State) : s.exhaust.k = s.k := rfl
@[simp] theorem State.exhaust_dec (s : State) : s.exhaust.dec = s.dec := rfl
@[simp] theorem State.exhaust_cfg (s : State) : s.exhaust.cfg = s.cfg := rfl
@[simp] theorem State.exhaust_linkOpen (s : State) : s.exhaust.linkOpen = s.linkOpen := rfl
@[simp] theorem State.exhaust_ci (s : State) : s.exhaust.ci = 0 := rfl
@[simp] theorem State.exhaust_ctl (s : State) : s.exhaust.ctl = .qConf := rfl
@[simp] theorem State.exhaust_mode (s : State) : s.exhaust.mode = s.mode := rfl
@[simp] theorem State.exhaust_cur (s : State) : s.exhaust.cur = s.cur := rfl
@[simp] theorem State.exhaust_res (s : State) : s.exhaust.res = s.res := rfl
@[simp] theorem State.exhaust_reports (s : State) : s.exhaust.reports = s.reports ++ [.exhausted] := rfl
@[simp] theorem State.exhaust_params (s : State) : s.exhaust.params = s.params := rfl
@[simp] theorem State.exhaust_inputs (s : State) : s.exhaust.inputs = s.inputs := rfl
@[simp] theorem State.exhaust_transactions (s : State) : s.exhaust.transactions = s.transactions := rfl

end Sys2Proof.Machine
end

