-- ==== Sys2Proof/Laws/Outcomes.lean ====
section
/-! SUPPORT. How the two shared continuations go on, one lemma per user (41_frame_codec R188, R199, 42_link R221, 43_discovery
R244). -/

namespace Sys2Proof.Machine

section
variable {s : State}

theorem State.rxDone_receive (hm : s.mode = .cmd) (ho : s.cur.op = 0x12) (code : ResultCode) (a b : Byte) :
    s.rxDone code a b = s.complete 0x12 code a b := by
  unfold State.rxDone
  rw [hm]
  exact if_pos ho

theorem State.rxDone_read (hm : s.mode = .cmd) (ho : s.cur.op = 0x14) (code : ResultCode) (a b : Byte) :
    s.rxDone code a b = s.readAfterRx code a b := by
  unfold State.rxDone
  rw [hm]
  exact (if_neg (by rw [ho]; decide)).trans (if_pos ho)

theorem State.rxDone_poll (hm : s.mode = .seq) (code : ResultCode) (a b : Byte) : s.rxDone code a b = s.pollAfterRx code a b := by
  unfold State.rxDone
  rw [hm]

theorem State.writeDone_send (hm : s.mode = .cmd) (ho : s.cur.op = 0x11) (r : Status) :
    s.writeDone r = s.complete 0x11 (if r = .ok then .ok else .transportFailure) 0 0 := by
  unfold State.writeDone
  rw [hm]
  exact if_pos ho

theorem State.writeDone_read (hm : s.mode = .cmd) (ho : s.cur.op = 0x14) (r : Status) :
    s.writeDone r = if r = .ok then s.rxBegin s.cur.count else s.complete 0x14 .transportFailure 0 0 := by
  unfold State.writeDone
  rw [hm]
  exact (if_neg (by rw [ho]; decide)).trans (if_pos ho)

theorem State.writeDone_poll (hm : s.mode = .seq) (r : Status) :
    s.writeDone r = if r = .ok then s.rxBegin Config.pollCount else s.pollAfterRx .transportFailure 0 0 := by
  unfold State.writeDone
  rw [hm]

end

end Sys2Proof.Machine
end

