-- ==== Sys2Proof/Laws/PerInstr.lean ====
section
/-! SUPPORT. Per instruction: each used operand stands at its field of the encoded word (30_encoding R112, R116, R141). -/

namespace Sys2Proof.Laws.OperandsAtFields

/-- The operands each command uses, read back from its word by the fields of R112 and R116. -/
def Statement : Instr → Prop
  | .nop ign => (encode (.nop ign)).op = 0x00
  | .crcInit ign => (encode (.crcInit ign)).op = 0x01
  | .crcByte ign data => (encode (.crcByte ign data)).op = 0x02 ∧ (encode (.crcByte ign data)).data = data
  | .build addr fc start count ign =>
    let w := encode (.build addr fc start count ign)
    w.op = 0x10 ∧ w.addr = addr ∧ w.fc = fc ∧ w.start = start ∧ w.count = count
  | .send ign => (encode (.send ign)).op = 0x11
  | .receive ignHi count ignLo =>
    (encode (.receive ignHi count ignLo)).op = 0x12 ∧ (encode (.receive ignHi count ignLo)).count = count
  | .decode ign => (encode (.decode ign)).op = 0x13
  | .read addr ignFc start count ignData =>
    let w := encode (.read addr ignFc start count ignData)
    w.op = 0x14 ∧ w.addr = addr ∧ w.start = start ∧ w.count = count
  | .linkOpen ign => (encode (.linkOpen ign)).op = 0x18
  | .linkConfig addr ignMid ignTop driver framing =>
    let w := encode (.linkConfig addr ignMid ignTop driver framing)
    w.op = 0x19 ∧ w.addr = addr ∧ w.driver = driver ∧ w.framing = framing
  | .linkDiscard ign => (encode (.linkDiscard ign)).op = 0x1A
  | .discStart ign => (encode (.discStart ign)).op = 0x20

theorem nop (ign : BitVec 56) : Statement (.nop ign) := encode_op _

theorem crcInit (ign : BitVec 56) : Statement (.crcInit ign) := encode_op _

theorem crcByte (ign : BitVec 48) (data : Byte) : Statement (.crcByte ign data) := by
  refine ⟨encode_op _, ?_⟩
  simp only [encode, Instr.operandBits, CommandWord.data]
  apply BitVec.eq_of_getLsbD_eq
  intro j hj
  simp only [BitVec.getLsbD_append, BitVec.getLsbD_extractLsb', hj, decide_true, Bool.true_and]
  (repeat' split) <;> first | omega | (congr 1; omega)

theorem build (addr fc : Byte) (start count : Half) (ign : Byte) : Statement (.build addr fc start count ign) := by
  refine ⟨encode_op _, ?_, ?_, ?_, ?_⟩
  all_goals
    simp only [encode, Instr.operandBits, CommandWord.addr, CommandWord.fc, CommandWord.start, CommandWord.count]
    apply BitVec.eq_of_getLsbD_eq
    intro j hj
    simp only [BitVec.getLsbD_append, BitVec.getLsbD_extractLsb', hj, decide_true, Bool.true_and]
    (repeat' split) <;> first | omega | (congr 1; omega)

theorem send (ign : BitVec 56) : Statement (.send ign) := encode_op _

theorem receive (ignHi : BitVec 32) (count : Half) (ignLo : Byte) : Statement (.receive ignHi count ignLo) := by
  refine ⟨encode_op _, ?_⟩
  simp only [encode, Instr.operandBits, CommandWord.count]
  apply BitVec.eq_of_getLsbD_eq
  intro j hj
  simp only [BitVec.getLsbD_append, BitVec.getLsbD_extractLsb', hj, decide_true, Bool.true_and]
  (repeat' split) <;> first | omega | (congr 1; omega)

theorem decode (ign : BitVec 56) : Statement (.decode ign) := encode_op _

theorem read (addr ignFc : Byte) (start count : Half) (ignData : Byte) : Statement (.read addr ignFc start count ignData) := by
  refine ⟨encode_op _, ?_, ?_, ?_⟩
  all_goals
    simp only [encode, Instr.operandBits, CommandWord.addr, CommandWord.start, CommandWord.count]
    apply BitVec.eq_of_getLsbD_eq
    intro j hj
    simp only [BitVec.getLsbD_append, BitVec.getLsbD_extractLsb', hj, decide_true, Bool.true_and]
    (repeat' split) <;> first | omega | (congr 1; omega)

theorem linkOpen (ign : BitVec 56) : Statement (.linkOpen ign) := encode_op _

theorem linkConfig (addr : Byte) (ignMid : BitVec 40) (ignTop : BitVec 3) (driver : Bool) (framing : BitVec 4) :
    Statement (.linkConfig addr ignMid ignTop driver framing) := by
  refine ⟨encode_op _, ?_, ?_, ?_⟩
  · simp only [encode, Instr.operandBits, CommandWord.addr]
    apply BitVec.eq_of_getLsbD_eq
    intro j hj
    simp only [BitVec.getLsbD_append, BitVec.getLsbD_extractLsb', hj, decide_true, Bool.true_and]
    (repeat' split) <;> first | omega | (congr 1; omega)
  · simp only [encode, Instr.operandBits, CommandWord.driver, BitVec.getLsbD_append]
    simp
  · simp only [encode, Instr.operandBits, CommandWord.framing]
    apply BitVec.eq_of_getLsbD_eq
    intro j hj
    simp only [BitVec.getLsbD_append, BitVec.getLsbD_extractLsb', hj, decide_true, Bool.true_and]
    (repeat' split) <;> first | omega | (congr 1; omega)

theorem linkDiscard (ign : BitVec 56) : Statement (.linkDiscard ign) := encode_op _

theorem discStart (ign : BitVec 56) : Statement (.discStart ign) := encode_op _

end Sys2Proof.Laws.OperandsAtFields
end

