-- ==== Sys2Proof/Laws/Reception.lean ====
section
/-! SUPPORT. What the response receiver's operations leave unchanged (41_frame_codec R183 to R188): one lemma per field, so that
callers cite it instead of unfolding a phase. -/

namespace Sys2Proof.Machine

/-! ### readAfterRx -/

@[simp] theorem State.readAfterRx_enc (s : State) (code : ResultCode) (a b : Byte) : (s.readAfterRx code a b).enc = s.enc := by
  unfold State.readAfterRx; split <;> simp
@[simp] theorem State.readAfterRx_cfg (s : State) (code : ResultCode) (a b : Byte) : (s.readAfterRx code a b).cfg = s.cfg := by
  unfold State.readAfterRx; split <;> simp
@[simp] theorem State.readAfterRx_linkOpen (s : State) (code : ResultCode) (a b : Byte) : (s.readAfterRx code a b).linkOpen = s.linkOpen := by
  unfold State.readAfterRx; split <;> simp
@[simp] theorem State.readAfterRx_ci (s : State) (code : ResultCode) (a b : Byte) : (s.readAfterRx code a b).ci = s.ci := by
  unfold State.readAfterRx; split <;> simp
@[simp] theorem State.readAfterRx_mode (s : State) (code : ResultCode) (a b : Byte) : (s.readAfterRx code a b).mode = s.mode := by
  unfold State.readAfterRx; split <;> simp
@[simp] theorem State.readAfterRx_cur (s : State) (code : ResultCode) (a b : Byte) : (s.readAfterRx code a b).cur = s.cur := by
  unfold State.readAfterRx; split <;> simp
@[simp] theorem State.readAfterRx_params (s : State) (code : ResultCode) (a b : Byte) : (s.readAfterRx code a b).params = s.params := by
  unfold State.readAfterRx; split <;> simp
@[simp] theorem State.readAfterRx_inputs (s : State) (code : ResultCode) (a b : Byte) : (s.readAfterRx code a b).inputs = s.inputs := by
  unfold State.readAfterRx; split <;> simp
@[simp] theorem State.readAfterRx_transactions (s : State) (code : ResultCode) (a b : Byte) : (s.readAfterRx code a b).transactions = s.transactions := by
  unfold State.readAfterRx; split <;> simp

/-! ### pollAfterRx -/

@[simp] theorem State.pollAfterRx_enc (s : State) (code : ResultCode) (a b : Byte) : (s.pollAfterRx code a b).enc = s.enc := by
  unfold State.pollAfterRx; split <;> simp
@[simp] theorem State.pollAfterRx_cfg (s : State) (code : ResultCode) (a b : Byte) : (s.pollAfterRx code a b).cfg = s.cfg := by
  unfold State.pollAfterRx; split <;> simp
@[simp] theorem State.pollAfterRx_linkOpen (s : State) (code : ResultCode) (a b : Byte) : (s.pollAfterRx code a b).linkOpen = s.linkOpen := by
  unfold State.pollAfterRx; split <;> simp
@[simp] theorem State.pollAfterRx_ci (s : State) (code : ResultCode) (a b : Byte) : (s.pollAfterRx code a b).ci = s.ci := by
  unfold State.pollAfterRx; split <;> simp
@[simp] theorem State.pollAfterRx_mode (s : State) (code : ResultCode) (a b : Byte) : (s.pollAfterRx code a b).mode = s.mode := by
  unfold State.pollAfterRx; split <;> simp
@[simp] theorem State.pollAfterRx_cur (s : State) (code : ResultCode) (a b : Byte) : (s.pollAfterRx code a b).cur = s.cur := by
  unfold State.pollAfterRx; split <;> simp
@[simp] theorem State.pollAfterRx_params (s : State) (code : ResultCode) (a b : Byte) : (s.pollAfterRx code a b).params = s.params := by
  unfold State.pollAfterRx; split <;> simp
@[simp] theorem State.pollAfterRx_inputs (s : State) (code : ResultCode) (a b : Byte) : (s.pollAfterRx code a b).inputs = s.inputs := by
  unfold State.pollAfterRx; split <;> simp
@[simp] theorem State.pollAfterRx_transactions (s : State) (code : ResultCode) (a b : Byte) : (s.pollAfterRx code a b).transactions = s.transactions := by
  unfold State.pollAfterRx; split <;> simp

/-! ### rxDone -/

@[simp] theorem State.rxDone_enc (s : State) (code : ResultCode) (a b : Byte) : (s.rxDone code a b).enc = s.enc := by
  unfold State.rxDone; (repeat' split) <;> simp
@[simp] theorem State.rxDone_cfg (s : State) (code : ResultCode) (a b : Byte) : (s.rxDone code a b).cfg = s.cfg := by
  unfold State.rxDone; (repeat' split) <;> simp
@[simp] theorem State.rxDone_linkOpen (s : State) (code : ResultCode) (a b : Byte) : (s.rxDone code a b).linkOpen = s.linkOpen := by
  unfold State.rxDone; (repeat' split) <;> simp
@[simp] theorem State.rxDone_ci (s : State) (code : ResultCode) (a b : Byte) : (s.rxDone code a b).ci = s.ci := by
  unfold State.rxDone; (repeat' split) <;> simp
@[simp] theorem State.rxDone_mode (s : State) (code : ResultCode) (a b : Byte) : (s.rxDone code a b).mode = s.mode := by
  unfold State.rxDone; (repeat' split) <;> simp
@[simp] theorem State.rxDone_cur (s : State) (code : ResultCode) (a b : Byte) : (s.rxDone code a b).cur = s.cur := by
  unfold State.rxDone; (repeat' split) <;> simp
@[simp] theorem State.rxDone_params (s : State) (code : ResultCode) (a b : Byte) : (s.rxDone code a b).params = s.params := by
  unfold State.rxDone; (repeat' split) <;> simp
@[simp] theorem State.rxDone_inputs (s : State) (code : ResultCode) (a b : Byte) : (s.rxDone code a b).inputs = s.inputs := by
  unfold State.rxDone; (repeat' split) <;> simp
@[simp] theorem State.rxDone_transactions (s : State) (code : ResultCode) (a b : Byte) : (s.rxDone code a b).transactions = s.transactions := by
  unfold State.rxDone; (repeat' split) <;> simp

/-! ### checkC -/

@[simp] theorem State.checkC_enc (s : State) : s.checkC.enc = s.enc := by
  unfold State.checkC; (repeat' split) <;> simp
@[simp] theorem State.checkC_cfg (s : State) : s.checkC.cfg = s.cfg := by
  unfold State.checkC; (repeat' split) <;> simp
@[simp] theorem State.checkC_linkOpen (s : State) : s.checkC.linkOpen = s.linkOpen := by
  unfold State.checkC; (repeat' split) <;> simp
@[simp] theorem State.checkC_ci (s : State) : s.checkC.ci = s.ci := by
  unfold State.checkC; (repeat' split) <;> simp
@[simp] theorem State.checkC_mode (s : State) : s.checkC.mode = s.mode := by
  unfold State.checkC; (repeat' split) <;> simp
@[simp] theorem State.checkC_cur (s : State) : s.checkC.cur = s.cur := by
  unfold State.checkC; (repeat' split) <;> simp
@[simp] theorem State.checkC_params (s : State) : s.checkC.params = s.params := by
  unfold State.checkC; (repeat' split) <;> simp
@[simp] theorem State.checkC_inputs (s : State) : s.checkC.inputs = s.inputs := by
  unfold State.checkC; (repeat' split) <;> simp
@[simp] theorem State.checkC_transactions (s : State) : s.checkC.transactions = s.transactions := by
  unfold State.checkC; (repeat' split) <;> simp

/-! ### enterC -/

@[simp] theorem State.enterC_enc (s : State) : s.enterC.enc = s.enc := by
  simp [State.enterC]
@[simp] theorem State.enterC_cfg (s : State) : s.enterC.cfg = s.cfg := by
  simp [State.enterC]
@[simp] theorem State.enterC_linkOpen (s : State) : s.enterC.linkOpen = s.linkOpen := by
  simp [State.enterC]
@[simp] theorem State.enterC_ci (s : State) : s.enterC.ci = s.ci := by
  simp [State.enterC]
@[simp] theorem State.enterC_mode (s : State) : s.enterC.mode = s.mode := by
  simp [State.enterC]
@[simp] theorem State.enterC_cur (s : State) : s.enterC.cur = s.cur := by
  simp [State.enterC]
@[simp] theorem State.enterC_params (s : State) : s.enterC.params = s.params := by
  simp [State.enterC]
@[simp] theorem State.enterC_inputs (s : State) : s.enterC.inputs = s.inputs := by
  simp [State.enterC]
@[simp] theorem State.enterC_transactions (s : State) : s.enterC.transactions = s.transactions := by
  simp [State.enterC]

/-! ### raAvailed -/

@[simp] theorem State.raAvailed_enc (s : State) (n : Nat) : (s.raAvailed n).enc = s.enc := by
  unfold State.raAvailed; dsimp only; (repeat' split) <;> simp
@[simp] theorem State.raAvailed_cfg (s : State) (n : Nat) : (s.raAvailed n).cfg = s.cfg := by
  unfold State.raAvailed; dsimp only; (repeat' split) <;> simp
@[simp] theorem State.raAvailed_linkOpen (s : State) (n : Nat) : (s.raAvailed n).linkOpen = s.linkOpen := by
  unfold State.raAvailed; dsimp only; (repeat' split) <;> simp
@[simp] theorem State.raAvailed_ci (s : State) (n : Nat) : (s.raAvailed n).ci = s.ci := by
  unfold State.raAvailed; dsimp only; (repeat' split) <;> simp
@[simp] theorem State.raAvailed_mode (s : State) (n : Nat) : (s.raAvailed n).mode = s.mode := by
  unfold State.raAvailed; dsimp only; (repeat' split) <;> simp
@[simp] theorem State.raAvailed_cur (s : State) (n : Nat) : (s.raAvailed n).cur = s.cur := by
  unfold State.raAvailed; dsimp only; (repeat' split) <;> simp
@[simp] theorem State.raAvailed_params (s : State) (n : Nat) : (s.raAvailed n).params = s.params := by
  unfold State.raAvailed; dsimp only; (repeat' split) <;> simp
@[simp] theorem State.raAvailed_inputs (s : State) (n : Nat) : (s.raAvailed n).inputs = s.inputs := by
  unfold State.raAvailed; dsimp only; (repeat' split) <;> simp
@[simp] theorem State.raAvailed_transactions (s : State) (n : Nat) : (s.raAvailed n).transactions = s.transactions := by
  unfold State.raAvailed; dsimp only; (repeat' split) <;> simp

/-! ### rbGot -/

@[simp] theorem State.rbGot_enc (s : State) (r : List Byte) : (s.rbGot r).enc = s.enc := by
  unfold State.rbGot; dsimp only; (repeat' split) <;> simp
@[simp] theorem State.rbGot_cfg (s : State) (r : List Byte) : (s.rbGot r).cfg = s.cfg := by
  unfold State.rbGot; dsimp only; (repeat' split) <;> simp
@[simp] theorem State.rbGot_linkOpen (s : State) (r : List Byte) : (s.rbGot r).linkOpen = s.linkOpen := by
  unfold State.rbGot; dsimp only; (repeat' split) <;> simp
@[simp] theorem State.rbGot_ci (s : State) (r : List Byte) : (s.rbGot r).ci = s.ci := by
  unfold State.rbGot; dsimp only; (repeat' split) <;> simp
@[simp] theorem State.rbGot_mode (s : State) (r : List Byte) : (s.rbGot r).mode = s.mode := by
  unfold State.rbGot; dsimp only; (repeat' split) <;> simp
@[simp] theorem State.rbGot_cur (s : State) (r : List Byte) : (s.rbGot r).cur = s.cur := by
  unfold State.rbGot; dsimp only; (repeat' split) <;> simp
@[simp] theorem State.rbGot_params (s : State) (r : List Byte) : (s.rbGot r).params = s.params := by
  unfold State.rbGot; dsimp only; (repeat' split) <;> simp
@[simp] theorem State.rbGot_inputs (s : State) (r : List Byte) : (s.rbGot r).inputs = s.inputs := by
  unfold State.rbGot; dsimp only; (repeat' split) <;> simp
@[simp] theorem State.rbGot_transactions (s : State) (r : List Byte) : (s.rbGot r).transactions = s.transactions := by
  unfold State.rbGot; dsimp only; (repeat' split) <;> simp

/-! ### checkE -/

@[simp] theorem State.checkE_enc (s : State) : s.checkE.enc = s.enc := by
  unfold State.checkE; dsimp only; split <;> simp
@[simp] theorem State.checkE_cfg (s : State) : s.checkE.cfg = s.cfg := by
  unfold State.checkE; dsimp only; split <;> simp
@[simp] theorem State.checkE_linkOpen (s : State) : s.checkE.linkOpen = s.linkOpen := by
  unfold State.checkE; dsimp only; split <;> simp
@[simp] theorem State.checkE_ci (s : State) : s.checkE.ci = s.ci := by
  unfold State.checkE; dsimp only; split <;> simp
@[simp] theorem State.checkE_mode (s : State) : s.checkE.mode = s.mode := by
  unfold State.checkE; dsimp only; split <;> simp
@[simp] theorem State.checkE_cur (s : State) : s.checkE.cur = s.cur := by
  unfold State.checkE; dsimp only; split <;> simp
@[simp] theorem State.checkE_params (s : State) : s.checkE.params = s.params := by
  unfold State.checkE; dsimp only; split <;> simp
@[simp] theorem State.checkE_inputs (s : State) : s.checkE.inputs = s.inputs := by
  unfold State.checkE; dsimp only; split <;> simp
@[simp] theorem State.checkE_transactions (s : State) : s.checkE.transactions = s.transactions := by
  unfold State.checkE; dsimp only; split <;> simp

/-! ### rdGot -/

@[simp] theorem State.rdGot_enc (s : State) (r : List Byte) : (s.rdGot r).enc = s.enc := by
  unfold State.rdGot; dsimp only; (repeat' split) <;> simp
@[simp] theorem State.rdGot_cfg (s : State) (r : List Byte) : (s.rdGot r).cfg = s.cfg := by
  unfold State.rdGot; dsimp only; (repeat' split) <;> simp
@[simp] theorem State.rdGot_linkOpen (s : State) (r : List Byte) : (s.rdGot r).linkOpen = s.linkOpen := by
  unfold State.rdGot; dsimp only; (repeat' split) <;> simp
@[simp] theorem State.rdGot_ci (s : State) (r : List Byte) : (s.rdGot r).ci = s.ci := by
  unfold State.rdGot; dsimp only; (repeat' split) <;> simp
@[simp] theorem State.rdGot_mode (s : State) (r : List Byte) : (s.rdGot r).mode = s.mode := by
  unfold State.rdGot; dsimp only; (repeat' split) <;> simp
@[simp] theorem State.rdGot_cur (s : State) (r : List Byte) : (s.rdGot r).cur = s.cur := by
  unfold State.rdGot; dsimp only; (repeat' split) <;> simp
@[simp] theorem State.rdGot_params (s : State) (r : List Byte) : (s.rdGot r).params = s.params := by
  unfold State.rdGot; dsimp only; (repeat' split) <;> simp
@[simp] theorem State.rdGot_inputs (s : State) (r : List Byte) : (s.rdGot r).inputs = s.inputs := by
  unfold State.rdGot; dsimp only; (repeat' split) <;> simp
@[simp] theorem State.rdGot_transactions (s : State) (r : List Byte) : (s.rdGot r).transactions = s.transactions := by
  unfold State.rdGot; dsimp only; (repeat' split) <;> simp

end Sys2Proof.Machine
end

