-- ==== Sys2Proof/Laws/Step.lean ====
section
/-! SUPPORT. What a step can do, said once: `exec` and `step` as an equation per case, and the inversion lemma every rule over
all steps is derived from. -/

namespace Sys2Proof.Machine

/-! ## Presenting a command -/

@[simp] theorem State.offer_idle {s : State} (h : s.ctl = .idle) (w : CommandWord) (run : State → State) :
    s.offer w run = run (s.latch w) := if_pos h

@[simp] theorem State.offer_busy {s : State} (h : s.ctl ≠ .idle) (w : CommandWord) (run : State → State) :
    s.offer w run = s.refuseBusy w.op := if_neg h

/-- The acceptance code of each command, after the latch (R110). -/
def acceptance : Instr → State → State
  | .nop _, t => t
  | .crcInit _, t => State.complete { t with crc := Config.crcInit } 0x01 .ok 0 0
  | .crcByte _ data, t => State.complete { t with crc := crcStep t.crc data } 0x02 .ok 0 0
  | .build addr fc start count _, t => (t.loadTx addr fc start count).complete 0x10 .ok 0 0
  | .send _, t => if t.refusesSend then t.refuse else t.gotoSend .sDisc .sWrite
  | .receive _ count _, t => if t.refusesCount count then t.refuse else t.rxBegin count
  | .decode _, t => if t.refusesDecode then t.refuse else t.decodeIntoM.complete 0x13 .ok 0 0
  | .read addr _ start count _, t =>
    if t.refusesCount count then t.refuse else (t.loadTx addr Config.fcReadInput start count).gotoSend .sDisc .sWrite
  | .linkOpen _, t => if t.linkOpen then t.complete 0x18 .ok 0 0 else t.goto .lOpen
  | .linkConfig _ _ _ _ framing, t => if t.refusesConfig framing then t.refuse else t.goto .lConf
  | .linkDiscard _, t => if t.refusesDiscard then t.refuse else t.goto .lDisc
  | .discStart _, t =>
    if t.linkOpen then State.probeBegin { t with mode := .seq, ci := 0 } 0
    else State.goto { t with mode := .seq, ci := 0 } .qOpen

/-- Presenting any command answers a next state: NOP none, at IDLE its acceptance, elsewhere the busy refusal (R110, R111). -/
theorem exec_eq (i : Instr) (s : State) :
    exec i s = .next (if i.op = 0 then s else if s.ctl = .idle then acceptance i (s.latch (encode i)) else s.refuseBusy i.op) := by
  by_cases h : s.ctl = .idle
  · cases i <;> simp [exec, execNop, execCrcInit, execCrcByte, execBuild, execSend, execReceive, execDecode, execRead, execLinkOpen,
      execLinkConfig, execLinkDiscard, execDiscStart, acceptance, Instr.op, h]
  · cases i <;> simp [exec, execNop, execCrcInit, execCrcByte, execBuild, execSend, execReceive, execDecode, execRead, execLinkOpen,
      execLinkConfig, execLinkDiscard, execDiscStart, Instr.op, h]

/-- At IDLE, a command other than NOP is accepted (R110). -/
theorem exec_accepts {i : Instr} {s : State} (hop : i.op ≠ 0) (h : s.ctl = .idle) :
    exec i s = .next (acceptance i (s.latch (encode i))) := by rw [exec_eq, if_neg hop, if_pos h]

/-- Elsewhere it is refused as busy (R111). -/
theorem exec_busy {i : Instr} {s : State} (hop : i.op ≠ 0) (h : s.ctl ≠ .idle) : exec i s = .next (s.refuseBusy i.op) := by
  rw [exec_eq, if_neg hop, if_neg h]

/-! ## One event -/

section
variable {s t : State} {rest : List Event}

theorem step_present {w : CommandWord} (h : s.inputs = .present w :: rest) :
    step s = State.present { s with inputs := rest } w := by simp [step, h, State.onEvents]

theorem step_reset (h : s.inputs = .reset :: rest) : step s = .next (State.resetEvent { s with inputs := rest }) := by
  simp [step, h, State.onEvents]

theorem step_answer {a : Answer} (h : s.inputs = .answer a :: rest) (hc : s.ctl ≠ .qExh) :
    step s = State.takeAnswer { s with inputs := rest } a := by
  simp only [step, h, State.onEvents, State.answered]

/-- At a site whose transaction is `x`, an answer issues `x` and resumes the site (R18, R40). -/
theorem takeAnswer_issues {a : Answer} {x : Transaction} (h : s.request = some x) :
    s.takeAnswer a = (s.issue x).resume a := by simp [State.takeAnswer, h]

theorem step_goOn (h : s.inputs = []) : step s = s.goOn := by simp [step, h, State.onEvents]

/-- No site is a control point without a transaction. -/
theorem request_site {x : Transaction} (h : s.request = some x) : s.ctl ≠ .idle ∧ s.ctl ≠ .fatal ∧ s.ctl ≠ .qExh := by
  refine ⟨?_, ?_, ?_⟩ <;> intro hc <;> simp [State.request, hc] at h

/-- Everything a step that answers a next state can have done. -/
theorem step_cases (h : step s = .next t) :
    (∃ w i rest, s.inputs = .present w :: rest ∧ decode w = .ok i ∧ exec i { s with inputs := rest } = .next t) ∨
    (∃ w e rest, s.inputs = .present w :: rest ∧ decode w = .error e ∧ t = State.offerReserved { s with inputs := rest } w) ∨
    (∃ rest, s.inputs = .reset :: rest ∧ t = State.resetEvent { s with inputs := rest }) ∨
    (∃ rest, s.ctl = .qExh ∧ (s.inputs = .internal :: rest ∨ s.inputs = rest) ∧ t = State.exhaust { s with inputs := rest }) ∨
    (∃ a x rest, s.inputs = .answer a :: rest ∧ s.request = some x ∧
      State.resume (State.issue { s with inputs := rest } x) a = .next t) := by
  rcases hi : s.inputs with _ | ⟨_ | a | _ | _, rest⟩
  · rw [step_goOn hi] at h
    by_cases hc : s.ctl = .qExh
    · simp only [State.goOn, hc, Host.Outcome.next.injEq] at h
      refine .inr <| .inr <| .inr <| .inl ⟨[], hc, .inr rfl, ?_⟩
      rw [← h, ← hi]
    · unfold State.goOn at h
      split at h <;> simp_all
  · rename_i w
    rw [step_present hi, State.present] at h
    rcases hd : decode w with e | i
    · simp only [hd, Host.Outcome.next.injEq] at h
      exact .inr <| .inl ⟨w, e, rest, rfl, hd, h.symm⟩
    · simp only [hd] at h
      exact .inl ⟨w, i, rest, rfl, hd, h⟩
  · by_cases hc : s.ctl = .qExh
    · simp only [step, hi, State.onEvents, State.answered, hc, Host.Outcome.next.injEq] at h
      refine .inr <| .inr <| .inr <| .inl ⟨.answer a :: rest, hc, .inr rfl, ?_⟩
      rw [← h, ← hi]
    · rw [step_answer hi hc] at h
      rcases hr : s.request with _ | x
      · have hr' : State.request { s with inputs := rest } = none := hr
        simp only [State.takeAnswer, hr'] at h
        split at h <;> simp at h
      · have hr' : State.request { s with inputs := rest } = some x := hr
        rw [takeAnswer_issues hr'] at h
        exact .inr <| .inr <| .inr <| .inr ⟨a, x, rest, rfl, rfl, h⟩
  · rw [step_reset hi, Host.Outcome.next.injEq] at h
    exact .inr <| .inr <| .inl ⟨rest, rfl, h.symm⟩
  · simp only [step, hi, State.onEvents, State.internalStep] at h
    split at h
    · rename_i hc
      exact .inr <| .inr <| .inr <| .inl ⟨rest, hc, .inl rfl, (Host.Outcome.next.inj h).symm⟩
    · simp at h

end

/-! ## Answers -/

section
variable {a : Answer} {t : State}

theorem onStatus_next {f : Status → State} (h : onStatus a f = .next t) : ∃ r, a = .status r ∧ t = f r := by
  cases a <;> simp [onStatus] at h
  exact ⟨_, rfl, h.symm⟩

theorem onCount_next {f : Nat → State} (h : onCount a f = .next t) : ∃ n, a = .count n ∧ t = f n := by
  cases a <;> simp [onCount] at h
  exact ⟨_, rfl, h.symm⟩

theorem onBytes_next {m : Nat} {f : List Byte → State} (h : onBytes a m f = .next t) :
    ∃ r, a = .bytes r ∧ r.length ≤ m ∧ t = f r := by
  cases a <;> simp only [onBytes, reduceCtorEq] at h
  split at h
  · exact ⟨_, rfl, ‹_›, (Host.Outcome.next.inj h).symm⟩
  · simp at h

theorem onDone_next {u : State} (h : onDone a u = .next t) : a = .done ∧ t = u := by
  cases a <;> simp [onDone] at h
  exact ⟨rfl, h.symm⟩

theorem withCandidate_next {s : State} {f : Candidate → Host.Outcome State Fault Refusal} (h : withCandidate s f = .next t) :
    ∃ c, s.candidate = some c ∧ f c = .next t := by
  rcases hc : s.candidate with _ | c <;> simp [withCandidate, hc] at h
  exact ⟨c, rfl, h⟩

end

/-- Everything an answer can do: one line per transaction site (R40). -/
theorem resume_cases {s t : State} {a : Answer} (h : s.resume a = .next t) :
    (∃ r, s.ctl = .lOpen ∧ a = .status r ∧ t = s.linkOpened r) ∨
    (∃ r, s.ctl = .lConf ∧ a = .status r ∧ t = s.linkConfigured r) ∨
    (s.ctl = .lDisc ∧ a = .done ∧ t = s.linkDiscarded) ∨
    (s.ctl = .sDisc ∧ a = .done ∧ t = s.goto .sWrite) ∨
    (∃ r, s.ctl = .sWrite ∧ a = .status r ∧ t = s.writeDone r) ∨
    (s.ctl = .raDelay ∧ a = .done ∧ t = s.tick .raAvail) ∨
    (∃ n, s.ctl = .raAvail ∧ a = .count n ∧ t = s.raAvailed n) ∨
    (∃ r, s.ctl = .rbRead ∧ a = .bytes r ∧ r.length ≤ s.excMissing ∧ t = s.rbGot r) ∨
    (s.ctl = .rcDelay ∧ a = .done ∧ t = s.tick .rcAvail) ∨
    (∃ n, s.ctl = .rcAvail ∧ a = .count n ∧ t = (s.setAvail n).checkC) ∨
    (∃ r, s.ctl = .rdRead ∧ a = .bytes r ∧ r.length ≤ s.missing ∧ t = s.rdGot r) ∨
    (∃ r, s.ctl = .qOpen ∧ a = .status r ∧ t = s.sessionOpened r) ∨
    (∃ c r, s.ctl = .qConf ∧ s.candidate = some c ∧ a = .status r ∧ t = s.probeConfigured c r) ∨
    (s.ctl = .qSdisc ∧ a = .done ∧ t = s.goto .qWrite) ∨
    (∃ r, s.ctl = .qWrite ∧ a = .status r ∧ t = s.probeWritten r) ∨
    (s.ctl = .qDelay ∧ a = .done ∧ t = s.tick .qAvail) ∨
    (∃ c n, s.ctl = .qAvail ∧ s.candidate = some c ∧ a = .count n ∧ t = s.probeAvailed c n) ∨
    (s.ctl = .qFdisc ∧ a = .done ∧ t = s.pollBegin) ∨
    (s.ctl = .pDelay ∧ a = .done ∧ t = s.pollBegin) := by
  unfold State.resume at h
  cases hc : s.ctl <;> simp only [hc] at h
  case idle | qExh | fatal => simp at h
  case lOpen | lConf | sWrite | qOpen | qWrite =>
    obtain ⟨r, rfl, rfl⟩ := onStatus_next h
    simp
  case lDisc | sDisc | raDelay | rcDelay | qSdisc | qDelay | qFdisc | pDelay =>
    obtain ⟨rfl, rfl⟩ := onDone_next h
    simp
  case raAvail | rcAvail =>
    obtain ⟨r, rfl, rfl⟩ := onCount_next h
    simp
  case rbRead | rdRead =>
    obtain ⟨r, rfl, hr, rfl⟩ := onBytes_next h
    simp [hr]
  case qConf =>
    obtain ⟨c, hc', h⟩ := withCandidate_next h
    obtain ⟨r, rfl, rfl⟩ := onStatus_next h
    simp [hc']
  case qAvail =>
    obtain ⟨c, hc', h⟩ := withCandidate_next h
    obtain ⟨r, rfl, rfl⟩ := onCount_next h
    simp [hc']

end Sys2Proof.Machine
end

