-- ==== Sys2Proof/Laws/Sites.lean ====
section
/-! SUPPORT. The transaction sites one by one (10_state R40): the transaction each issues, what its answer runs, and a step that takes
an answer as the two together. -/

namespace Sys2Proof.Machine

/-- A step that takes an answer: the event leaves the store, the site's transaction is issued, the site goes on (R18). -/
theorem step_site {s : State} {a : Answer} {rest : List Event} {x : Transaction} (hi : s.inputs = .answer a :: rest)
    (hr : s.request = some x) : step s = (State.issue { s with inputs := rest } x).resume a := by
  rw [step_answer hi (request_site hr).2.2]
  exact takeAnswer_issues (s := { s with inputs := rest }) hr

@[simp] theorem State.candidate_issue (s : State) (x : Transaction) : (s.issue x).candidate = s.candidate := rfl

@[simp] theorem State.candidate_inputs (s : State) (rest : List Event) : State.candidate { s with inputs := rest } = s.candidate := rfl

theorem withCandidate_some {s : State} {c : Candidate} (h : s.candidate = some c)
    (f : Candidate → Host.Outcome State Fault Refusal) : withCandidate s f = f c := by simp only [withCandidate, h]

section
variable {s : State}

/-! ## The transaction of each site -/

theorem State.request_lOpen (h : s.ctl = .lOpen) : s.request = some (.openLink s.params.linkId) := by simp only [State.request, h]
theorem State.request_lDisc (h : s.ctl = .lDisc) : s.request = some (.discardBuffers) := by simp only [State.request, h]
theorem State.request_sDisc (h : s.ctl = .sDisc) : s.request = some (.discardBuffers) := by simp only [State.request, h]
theorem State.request_sWrite (h : s.ctl = .sWrite) : s.request = some (.write s.enc.txbuf) := by simp only [State.request, h]
theorem State.request_raDelay (h : s.ctl = .raDelay) : s.request = some (.delay s.params.interval1) := by simp only [State.request, h]
theorem State.request_raAvail (h : s.ctl = .raAvail) : s.request = some (.bytesAvailable) := by simp only [State.request, h]
theorem State.request_rbRead (h : s.ctl = .rbRead) : s.request = some (.read s.excMissing) := by simp only [State.request, h]
theorem State.request_rcDelay (h : s.ctl = .rcDelay) : s.request = some (.delay s.params.interval2) := by simp only [State.request, h]
theorem State.request_rcAvail (h : s.ctl = .rcAvail) : s.request = some (.bytesAvailable) := by simp only [State.request, h]
theorem State.request_rdRead (h : s.ctl = .rdRead) : s.request = some (.read s.missing) := by simp only [State.request, h]
theorem State.request_qOpen (h : s.ctl = .qOpen) : s.request = some (.openLink s.params.linkId) := by simp only [State.request, h]
theorem State.request_qSdisc (h : s.ctl = .qSdisc) : s.request = some (.discardBuffers) := by simp only [State.request, h]
theorem State.request_qWrite (h : s.ctl = .qWrite) : s.request = some (.write s.enc.txbuf) := by simp only [State.request, h]
theorem State.request_qDelay (h : s.ctl = .qDelay) : s.request = some (.delay s.params.probeInterval) := by simp only [State.request, h]
theorem State.request_qAvail (h : s.ctl = .qAvail) : s.request = some (.bytesAvailable) := by simp only [State.request, h]
theorem State.request_qFdisc (h : s.ctl = .qFdisc) : s.request = some (.discardBuffers) := by simp only [State.request, h]
theorem State.request_pDelay (h : s.ctl = .pDelay) : s.request = some (.delay s.params.pollPeriod) := by simp only [State.request, h]

theorem State.request_lConf {v : Framing} (h : s.ctl = .lConf) (hv : s.params.framings[s.cur.framing.toNat]? = some v) :
    s.request = some (.configure v s.cur.driver s.cur.addr) := by simp only [State.request, h, hv, Option.map_some]
theorem State.request_qConf {c : Candidate} (h : s.ctl = .qConf) (hc : s.candidate = some c) :
    s.request = some (.configure c.framing c.driver c.address) := by simp only [State.request, h, hc, Option.map_some]

/-! ## What each site's answer runs -/

theorem State.resume_lOpen (h : s.ctl = .lOpen) (a : Answer) :
    s.resume a = onStatus a s.linkOpened := by simp only [State.resume, h]
theorem State.resume_lConf (h : s.ctl = .lConf) (a : Answer) :
    s.resume a = onStatus a s.linkConfigured := by simp only [State.resume, h]
theorem State.resume_lDisc (h : s.ctl = .lDisc) (a : Answer) :
    s.resume a = onDone a s.linkDiscarded := by simp only [State.resume, h]
theorem State.resume_sDisc (h : s.ctl = .sDisc) (a : Answer) :
    s.resume a = onDone a (s.goto .sWrite) := by simp only [State.resume, h]
theorem State.resume_sWrite (h : s.ctl = .sWrite) (a : Answer) :
    s.resume a = onStatus a s.writeDone := by simp only [State.resume, h]
theorem State.resume_raDelay (h : s.ctl = .raDelay) (a : Answer) :
    s.resume a = onDone a (s.tick .raAvail) := by simp only [State.resume, h]
theorem State.resume_raAvail (h : s.ctl = .raAvail) (a : Answer) :
    s.resume a = onCount a s.raAvailed := by simp only [State.resume, h]
theorem State.resume_rbRead (h : s.ctl = .rbRead) (a : Answer) :
    s.resume a = onBytes a s.excMissing s.rbGot := by simp only [State.resume, h]
theorem State.resume_rcDelay (h : s.ctl = .rcDelay) (a : Answer) :
    s.resume a = onDone a (s.tick .rcAvail) := by simp only [State.resume, h]
theorem State.resume_rcAvail (h : s.ctl = .rcAvail) (a : Answer) :
    s.resume a = onCount a fun n => (s.setAvail n).checkC := by simp only [State.resume, h]
theorem State.resume_rdRead (h : s.ctl = .rdRead) (a : Answer) :
    s.resume a = onBytes a s.missing s.rdGot := by simp only [State.resume, h]
theorem State.resume_qOpen (h : s.ctl = .qOpen) (a : Answer) :
    s.resume a = onStatus a s.sessionOpened := by simp only [State.resume, h]
theorem State.resume_qConf (h : s.ctl = .qConf) (a : Answer) :
    s.resume a = withCandidate s fun c => onStatus a (s.probeConfigured c) := by simp only [State.resume, h]
theorem State.resume_qSdisc (h : s.ctl = .qSdisc) (a : Answer) :
    s.resume a = onDone a (s.goto .qWrite) := by simp only [State.resume, h]
theorem State.resume_qWrite (h : s.ctl = .qWrite) (a : Answer) :
    s.resume a = onStatus a s.probeWritten := by simp only [State.resume, h]
theorem State.resume_qDelay (h : s.ctl = .qDelay) (a : Answer) :
    s.resume a = onDone a (s.tick .qAvail) := by simp only [State.resume, h]
theorem State.resume_qAvail (h : s.ctl = .qAvail) (a : Answer) :
    s.resume a = withCandidate s fun c => onCount a (s.probeAvailed c) := by simp only [State.resume, h]
theorem State.resume_qFdisc (h : s.ctl = .qFdisc) (a : Answer) :
    s.resume a = onDone a s.pollBegin := by simp only [State.resume, h]
theorem State.resume_pDelay (h : s.ctl = .pDelay) (a : Answer) :
    s.resume a = onDone a s.pollBegin := by simp only [State.resume, h]

end

end Sys2Proof.Machine
end

