-- ==== Sys2Proof/Laws/Transport.lean ====
section
/-! SUPPORT. The output stream of the host contract: it gains only bytes of the engine's writes, in order (R73, R90). -/

namespace Sys2Proof.Machine

/-- A served transaction puts at most the bytes given to it on the output stream. -/
theorem Transport.serves_written {t u : Transport} {x : Transaction} {a : Answer} (h : t.Serves x a u) :
    ∃ sent, u.written = t.written ++ sent ∧ sent.Sublist (bytesGiven [.serve x a]) := by
  have kept (l : List Byte) (e : u.written = t.written) : ∃ sent, u.written = t.written ++ sent ∧ sent.Sublist l :=
    ⟨[], by rw [e, List.append_nil], l.nil_sublist⟩
  cases x <;> cases a <;> try exact h.elim
  case openLink.status id r => cases r <;> exact have e : u = _ := h; kept _ (by rw [e])
  case configure.status f d b r =>
    cases r
    · exact have e : u = _ := h; kept _ (by rw [e])
    · exact kept _ h.1
  case write.status bs r =>
    cases r
    · exact ⟨bs.toList, congrArg Transport.written (show u = _ from h), by simp [bytesGiven]⟩
    · obtain ⟨-, -, sent, hs, hw, -⟩ := h
      exact ⟨sent, hw, by simpa [bytesGiven] using hs⟩
  case bytesAvailable.count n => exact have e : u = _ := h; kept _ (by rw [e])
  case read.bytes m r => exact kept _ (by rw [h.2.2])
  case discardBuffers.done => exact have e : u = _ := h; kept _ (by rw [e])
  case delay.done d => exact have e : u = _ := h; kept _ (by rw [e])

/-- One event puts at most the bytes given to it on the output stream. -/
theorem Transport.does_written {t u : Transport} {e : HostEvent} (h : t.Does e u) :
    ∃ sent, u.written = t.written ++ sent ∧ sent.Sublist (bytesGiven [e]) := by
  cases e with
  | arrive bs => exact ⟨[], by rw [show u = _ from h, List.append_nil], List.nil_sublist _⟩
  | transmit n => exact ⟨[], by rw [h.2, List.append_nil], List.nil_sublist _⟩
  | serve x a => exact Transport.serves_written h

/-- The bytes given in a run are those of its first event and those of the rest. -/
theorem bytesGiven_cons (e : HostEvent) (es : List HostEvent) : bytesGiven (e :: es) = bytesGiven [e] ++ bytesGiven es := by
  cases e with
  | arrive bs => rfl
  | transmit n => rfl
  | serve x a => cases x <;> simp [bytesGiven]

/-- R73: over a run the output stream gains only bytes the engine gave to write, in their order. -/
theorem Transport.runs_written {es : List HostEvent} {t u : Transport} (h : t.Runs es u) :
    ∃ sent, u.written = t.written ++ sent ∧ sent.Sublist (bytesGiven es) := by
  induction es generalizing t with
  | nil => exact ⟨[], by rw [show u = t from h, List.append_nil], List.nil_sublist _⟩
  | cons e es ih =>
    obtain ⟨v, hv, hu⟩ := h
    obtain ⟨one, hone, sone⟩ := Transport.does_written hv
    obtain ⟨more, hmore, smore⟩ := ih hu
    refine ⟨one ++ more, by rw [hmore, hone, List.append_assoc], ?_⟩
    rw [bytesGiven_cons]
    exact sone.append smore

end Sys2Proof.Machine
end

