-- ==== Sys2Proof/Tests/Slice0.lean ====
section
/-! SUPPORT. Tests of single steps, with every expected value from the spec's own vectors (95_test_vectors) or worked out by hand from a
rule, and witnesses that meet the hypotheses of the statements. -/

namespace Sys2Proof.Tests

open Sys2Proof Sys2Proof.Machine Sys2Proof.Claims

/-! ## Small states -/

/-- The next state of an outcome, if it has one. -/
def after (o : Host.Outcome State Fault Refusal) : Option State :=
  match o with
  | .next t => some t
  | .fault _ => none
  | .refused _ => none

/-- The result register's code after an instruction. -/
def kindAfter (i : Instr) (s : State) : Option ResultCode := (after (exec i s)).map fun t => t.res.kind

/-- At a control point, the link open, with events in store; everything else as after reset. -/
def site (c : Ctl) (es : List Event) : State := { State.reset with linkOpen := true, ctl := c, inputs := es }

/-- As `site`, run by the sequencer (DISC_START in cur), the Configuration register valid. -/
def seqSite (c : Ctl) (es : List Event) : State :=
  { site c es with mode := .seq, cur := 0x2000000000000000, cfg := ⟨0, false, 0x01, 0, true⟩ }

/-- A reception of n registers (RECEIVE in cur). -/
def rxSite (c : Ctl) (n : Nat) (es : List Event) : State :=
  { site c es with
    cur := 0x1200000000000000
    rx := { State.reset.rx with rxN := BitVec.ofNat 8 n, rxWant := BitVec.ofNat 8 (5 + 2 * n) } }

/-- As `rxSite`, some bytes received. -/
def rxHave (c : Ctl) (n : Nat) (bs : List Byte) (es : List Event) : State :=
  let s := rxSite c n es
  { s with rx := { s.rx with rxbuf := writeBytes s.rx.rxbuf 0 bs, rxLen := BitVec.ofNat 8 bs.length } }

/-- g1 of 95_test_vectors: a valid reply of one register. -/
def g1 : List Byte := [0x01, 0x04, 0x02, 0x13, 0x88, 0xB4, 0x66]

/-- f8 of 95_test_vectors: a valid reply of eight registers. -/
def f8 : List Byte :=
  [0x01, 0x04, 0x10, 0x00, 0x64, 0x00, 0x0A, 0x64, 0x00, 0x00, 0x00, 0x0A, 0x00, 0x00, 0x00, 0x00, 0x00, 0x00, 0x00, 0xD8, 0x3D]

/-- f8 received whole and checked, the machine back at IDLE. -/
def received : State :=
  let s := rxHave .idle 8 f8 []
  { s with rx := { s.rx with rxOk := true }, crc := 0x3DD8 }

/-! ## WellFormed: each check refuses an ill-formed term (70_reset R304) -/

theorem test_valid_defaults : Params.vectorDefaults.Valid := by decide
theorem test_no_framing_refused : ¬ Params.FramingsValid { Params.vectorDefaults with framings := [] } := by decide
theorem test_seventeen_framings_refused :
    ¬ Params.FramingsValid { Params.vectorDefaults with framings := List.replicate 17 ⟨0⟩ } := by decide
theorem test_repeated_driver_refused : ¬ Params.DriverModesValid { Params.vectorDefaults with driverModes := [true, true] } := by decide
theorem test_no_driver_refused : ¬ Params.DriverModesValid { Params.vectorDefaults with driverModes := [] } := by decide
theorem test_repeated_address_refused : ¬ Params.AddressesValid { Params.vectorDefaults with addresses := [1, 2, 1] } := by decide
theorem test_no_address_refused : ¬ Params.AddressesValid { Params.vectorDefaults with addresses := [] } := by decide
theorem test_zero_budget_refused : ¬ Params.BudgetsValid { Params.vectorDefaults with wait1Iters := 0 } := by decide
theorem test_zero_threshold_refused : ¬ Params.ThresholdValid { Params.vectorDefaults with probeMinBytes := 0 } := by decide
theorem test_wide_threshold_refused : ¬ Params.ThresholdValid { Params.vectorDefaults with probeMinBytes := 256 } := by decide
theorem test_equal_waits_refused : ¬ Params.SecondWaitLonger { Params.vectorDefaults with interval2 := 1 } := by decide
theorem test_one_bad_check_is_enough : ¬ Params.Valid { Params.vectorDefaults with probeIters := 0 } := by decide

/-! ## Decoding: words written out from the spec's encodings -/

/-- R141's table: OP 0x00. -/
theorem test_decode_nop : decode 0x0000000000000000 = .ok (.nop 0) := by decide
/-- R157: "the word is 0x0100000000000000". -/
theorem test_decode_crcInit : decode 0x0100000000000000 = .ok (.crcInit 0) := by decide
/-- R158: 0x02000000000000 followed by DATA as two hex digits. -/
theorem test_decode_crcByte : decode 0x0200000000000031 = .ok (.crcByte 0 0x31) := by decide
/-- BLD13: OP 10, ADDR 11, FC 04, START 0100, COUNT 0002, DATA 00. -/
theorem test_decode_build : decode 0x1011040100000200 = .ok (.build 0x11 0x04 0x0100 2 0) := by decide
/-- LNK1. -/
theorem test_decode_send : decode 0x1100000000000000 = .ok (.send 0) := by decide
/-- RX22: COUNT = 0x0101. -/
theorem test_decode_receive : decode 0x1200000000010100 = .ok (.receive 0 0x0101 0) := by decide
/-- LNK1. -/
theorem test_decode_decode : decode 0x1300000000000000 = .ok (.decode 0) := by decide
/-- READ2: ADDR F8, COUNT 1; READ5's second word has FC 77. -/
theorem test_decode_read : decode 0x14F8000000000100 = .ok (.read 0xF8 0 0x0000 1 0) := by decide
theorem test_decode_read_fc : decode 0x1401770000000800 = .ok (.read 0x01 0x77 0x0000 8 0) := by decide
/-- LNK2, row 1. -/
theorem test_decode_linkOpen : decode 0x1800000000000000 = .ok (.linkOpen 0) := by decide
/-- LNK2, row 5: framing 0, driver 1; LNK3, item 4: DATA[7:5] = 111 is ignored. -/
theorem test_decode_linkConfig : decode 0x19F8000000000010 = .ok (.linkConfig 0xF8 0 0 true 0) := by decide
theorem test_decode_linkConfig_top : decode 0x19010000000000F1 = .ok (.linkConfig 0x01 0 0b111 true 1) := by decide
/-- LNK2, row 6. -/
theorem test_decode_linkDiscard : decode 0x1A00000000000000 = .ok (.linkDiscard 0) := by decide
/-- Section 2.7. -/
theorem test_decode_discStart : decode 0x2000000000000000 = .ok (.discStart 0) := by decide
/-- R115: OP 0x15 lies between READ and LINK_OPEN and is reserved. -/
theorem test_decode_reserved : decode 0x1500000000000000 = .error (.reservedOp 0x15) := by decide
/-- The encoder writes BLD15's word. -/
theorem test_encode_build : encode (.build 0xFF 0xFF 0x1234 5 0) = 0x10FFFF1234000500 := by decide
/-- The table's bit numbers are the word's own. -/
theorem test_table_word : decodeTableWord 64 0x1A00000000000000 = some (.linkDiscard 0) := by decide

/-! ## Instructions, one step each -/

/-- R210: no effect, IDLE included. -/
theorem test_nop : after (exec (.nop 5) State.reset) = some State.reset := by decide +kernel
/-- R157's example. -/
theorem test_crcInit : (after (exec (.crcInit 0) { State.reset with crc := 0x1234 })).map (fun t => t.crc) = some 0xFFFF := by decide
/-- R158's example. -/
theorem test_crcByte : (after (exec (.crcByte 0 0x02) State.reset)).map (fun t => t.crc) = some 0x813E := by decide +kernel
/-- CRC19: from 0x37DD, the last byte of "123456789". -/
theorem test_crcByte_last :
    (after (exec (.crcByte 0 0x39) { State.reset with crc := 0x37DD })).map (fun t => t.crc) = some 0x4B37 := by decide +kernel
/-- BLD1. -/
theorem test_build : (after (exec (.build 0x02 0x04 0 1 0) State.reset)).map (fun t => (t.enc.txbuf.toList, t.crc)) =
    some ([0x02, 0x04, 0x00, 0x00, 0x00, 0x01, 0x31, 0xF9], 0xF931) := by decide +kernel
/-- BLD15, both bytes of START and COUNT in use. -/
theorem test_build_order : (after (exec (.build 0xFF 0xFF 0x1234 5 0) State.reset)).map (fun t => t.enc.txbuf.toList) =
    some [0xFF, 0xFF, 0x12, 0x34, 0x00, 0x05, 0x84, 0xB5] := by decide +kernel
/-- LNK1: refused with the link closed. -/
theorem test_send_closed : kindAfter (.send 0) { State.reset with enc := ⟨State.reset.enc.txbuf, true⟩ } = some .cmdRefused := by decide
/-- LNK5: the discard comes first. -/
theorem test_send : (after (exec (.send 0) { site .idle [] with enc := ⟨State.reset.enc.txbuf, true⟩ })).map (fun t => t.ctl) =
    some .sDisc := by decide
/-- RX22: the whole 16-bit COUNT is checked. -/
theorem test_receive_wide : kindAfter (.receive 0 0x0101 0) (site .idle []) = some .cmdRefused := by decide
/-- R182 for n = 8: want = 21. -/
theorem test_receive : (after (exec (.receive 0 8 0) (site .idle []))).map (fun t => (t.rx.rxWant, t.rx.rxN, t.ctl)) =
    some (21, 8, .raDelay) := by decide
/-- DEC3. -/
theorem test_decode : (after (exec (.decode 0) received)).map (fun t => t.dec) = some ⟨⟨100, 10, 25600, 2560⟩, true⟩ := by
  decide +kernel
/-- DEC11: five registers are too few. -/
theorem test_decode_five : kindAfter (.decode 0) { received with rx := { received.rx with rxN := 5 } } = some .cmdRefused := by
  decide +kernel
/-- READ5: FC = 0x77 is ignored. -/
theorem test_read : (after (exec (.read 0x01 0x77 0 8 0) (site .idle []))).map (fun t => (t.enc.txbuf.toList, t.ctl)) =
    some ([0x01, 0x04, 0x00, 0x00, 0x00, 0x08, 0xF1, 0xCC], .sDisc) := by decide +kernel
/-- READ4: COUNT = 9. -/
theorem test_read_nine : kindAfter (.read 0x01 0 0 9 0) (site .idle []) = some .cmdRefused := by decide
/-- LNK2, row 2: an open link is not opened again. -/
theorem test_linkOpen_again : kindAfter (.linkOpen 0) (site .idle []) = some .ok := by decide
/-- LNK2, row 1, before the host answers. -/
theorem test_linkOpen : (after (exec (.linkOpen 0) State.reset)).map (fun t => (t.ctl, t.linkOpen)) = some (.lOpen, false) := by decide
/-- LNK2, row 4: f = 1 with NF = 1. -/
theorem test_linkConfig_range : kindAfter (.linkConfig 0x01 0 0 false 1) (site .idle []) = some .cmdRefused := by decide
/-- LNK2, row 5, before the host answers. -/
theorem test_linkConfig : (after (exec (.linkConfig 0xF8 0 0 true 0) (site .idle []))).map (fun t => t.ctl) = some .lConf := by decide
/-- LNK1. -/
theorem test_linkDiscard_closed : kindAfter (.linkDiscard 0) State.reset = some .cmdRefused := by decide
/-- R217. -/
theorem test_linkDiscard : (after (exec (.linkDiscard 0) (site .idle []))).map (fun t => t.ctl) = some .lDisc := by decide
/-- DSC1: the link is opened first. -/
theorem test_discStart : (after (exec (.discStart 0) State.reset)).map (fun t => (t.ctl, t.mode)) = some (.qOpen, .seq) := by decide
/-- LNK6, item 3: busy; cur is not latched. -/
theorem test_busy : (after (exec (.crcInit 0) (rxSite .raAvail 8 []))).map (fun t => (t.res.kind, t.cur, t.ctl)) =
    some (.cmdRefused, 0x1200000000000000, .raAvail) := by decide

/-! ## Transaction sites, one step each -/

/-- LNK2, row 1. -/
theorem test_lOpen : (after (step { site .lOpen [.answer (.status .ok)] with linkOpen := false })).map (fun t => (t.linkOpen, t.ctl)) =
    some (true, .idle) := by decide
/-- LNK2, row 5: Err leaves the Configuration register alone. -/
theorem test_lConf_err :
    (after (step { site .lConf [.answer (.status .err)] with cur := 0x19F8000000000010 })).map (fun t => (t.cfg, t.res.kind)) =
      some (⟨0, false, 0, 0, false⟩, .transportFailure) := by decide
/-- RX1, its last step: the frame is stored and checked. -/
theorem test_rdRead : (after (step (rxSite .rdRead 1 [.answer (.bytes g1)]))).map (fun t => (t.res.kind, t.rx.rxOk, t.crc)) =
    some (.ok, true, 0x66B4) := by decide +kernel
/-- RX13: the trailer's last byte changed. -/
theorem test_rdRead_bad : (after (step (rxSite .rdRead 8 [.answer (.bytes (f8.set 20 0x3C))]))).map (fun t => (t.res.kind, t.crc)) =
    some (.checksumError, 0x3DD8) := by decide +kernel
/-- RX9: a zero-byte read after ten bytes. -/
theorem test_rdRead_none : (after (step (rxHave .rdRead 8 (f8.take 10) [.answer (.bytes [])]))).map (fun t => t.res) =
    some ⟨.partialFrame, 10, 21⟩ := by decide +kernel
/-- RX4: the exception's trailer is not examined. -/
theorem test_rbRead : (after (step (rxSite .rbRead 8 [.answer (.bytes [0x01, 0x84, 0x02, 0x00, 0x00])]))).map (fun t => t.res) =
    some ⟨.deviceException, 2, 0⟩ := by decide +kernel
/-- RX2: bit 7 clear, five bytes kept. -/
theorem test_rbRead_kept : (after (step (rxSite .rbRead 1 [.answer (.bytes (g1.take 5))]))).map (fun t => (t.ctl, t.rx.rxLen, t.avail)) =
    some (.rcDelay, 5, 0) := by decide +kernel
/-- RX6's last step: the budget of phase C is used up. -/
theorem test_rcAvail : (after (step { rxSite .rcAvail 8 [.answer (.count 5)] with k := 3 })).map (fun t => t.res) =
    some ⟨.partialFrame, 5, 21⟩ := by decide
/-- RX17's last poll: completeness is tested before the budget. -/
theorem test_rcAvail_last : (after (step { rxSite .rcAvail 8 [.answer (.count 21)] with k := 3 })).map (fun t => t.ctl) =
    some .rdRead := by decide
/-- DSC1: seven bytes are enough; the probe's candidate is latched. -/
theorem test_qAvail :
    (after (step { site .qAvail [.answer (.count 7)] with mode := .seq, k := 2 })).map (fun t => (t.cfg, t.ctl, t.reports)) =
      some (⟨0, false, 0x01, 0, true⟩, .qFdisc, [.found 0 false 0x01 0]) := by decide
/-- R242 with N = 1: exhausted, back to candidate 0. -/
theorem test_qExh : (after (step { site .qExh [] with mode := .seq })).map (fun t => (t.ctl, t.ci, t.reports)) =
    some (.qConf, 0, [.exhausted]) := by decide
/-- R236: the fatal stop. -/
theorem test_qOpen_err : (after (step { seqSite .qOpen [.answer (.status .err)] with linkOpen := false })).map (fun t => (t.ctl, t.reports)) =
    some (.fatal, [.fatal .linkOpenFailure]) := by decide
/-- R244: a poll that fails at its write. -/
theorem test_poll_write_err : (after (step (seqSite .sWrite [.answer (.status .err)]))).map (fun t => (t.ctl, t.reports)) =
    some (.pDelay, [.poll .transportFailure 0 0 none]) := by decide
/-- R300: reset in the middle of a reception. -/
theorem test_reset_event : after (step (rxHave .rdRead 8 (f8.take 10) [.reset])) = some State.reset := by decide +kernel
/-- The host's way of placing a word: the first step after reset runs it. -/
theorem test_fetch_word : (after (step (State.reset.withFetchWord 64 0x0200000000000001))).map (fun t => (t.crc, t.inputs)) =
    some (0x807E, []) := by decide +kernel

/-! ## Pure functions -/

/-- CRC1. -/
theorem test_crc_check : crc16 [0x31, 0x32, 0x33, 0x34, 0x35, 0x36, 0x37, 0x38, 0x39] = 0x4B37 := by decide +kernel
/-- CRC12: the residual of a whole request. -/
theorem test_crc_residual : crc16 [0x02, 0x04, 0x00, 0x00, 0x00, 0x01, 0x31, 0xF9] = 0x0000 := by decide +kernel
/-- R232 with two of each: index 5 = (1·2 + 0)·2 + 1. -/
theorem test_candidate :
    candidate { Params.vectorDefaults with framings := [⟨7⟩, ⟨8⟩], driverModes := [false, true], addresses := [0x11, 0x22] } 5 =
      some ⟨1, ⟨8⟩, false, 0x22⟩ := by decide
/-- R53: STATUS at reset has CTL = 0, MODE = 0, RES_KIND = 15 and nothing else. -/
theorem test_status_word : State.reset.readback 0x00 = 0x000003C0 := by decide +kernel
/-- R55: rxbuf[20] at index 0x34. -/
theorem test_readback_rxbuf : received.readback 0x34 = 0x3D := by decide +kernel

/-! ## Assembly (30_encoding R140 to R143) -/

/-- LNK3, item 3. -/
theorem test_assemble_config :
    (AsmStatement.command .linkConfig [(.addr, 0x01), (.framing, 1), (.driver, 1)]).assemble = .ok [0x1901000000000011] := by decide
/-- An operand the mnemonic does not list is an error (R140). -/
theorem test_assemble_unlisted : (AsmStatement.command .send [(.addr, 1)]).assemble = .error .operandNotListed := by decide
/-- R142: a reserved OP. -/
theorem test_disassemble_reserved : disassemble 0x7700000000000000 = .word 0x7700000000000000 := by decide
/-- S1. -/
theorem test_disassemble_build :
    disassemble 0x1002040000000100 = .command .build [(.addr, 0x02), (.fc, 0x04), (.start, 0x0000), (.count, 1)] := by decide

/-- P1's last line, with its comment. -/
theorem test_assemble_comment : assembleLine "crc.byte data=0xF9    ; 02000000000000F9".toList = .ok [0x02000000000000F9] := by
  decide +kernel
/-- LNK3, item 3, in text, its operands in another order (R140). -/
theorem test_assemble_order : assembleLine "link.config driver=1, addr=0x01, framing=1".toList = .ok [0x1901000000000011] := by
  decide +kernel
/-- Operand names are lower-case (R140). -/
theorem test_assemble_case : assembleLine "recv Count=1".toList = .error .operandNotListed := by decide +kernel
/-- P5's line for a reserved OP (R142). -/
theorem test_disassemble_line : disassembleLine 0x7700000000000000 = ".word 0x7700000000000000".toList := by decide +kernel

/-! ## Witnesses: states and operands that meet each statement's hypotheses together -/

theorem witness_ResetEventRestoresTable : (rxHave .rdRead 8 (f8.take 10) [.reset]).inputs = .reset :: [] := rfl

theorem witness_StepRunsDecodedInstruction :
    (site .idle [.present 0x1A00000000000000]).inputs = .present 0x1A00000000000000 :: [] ∧
      decode 0x1A00000000000000 = .ok (.linkDiscard 0) := ⟨rfl, by decide⟩

theorem witness_ReservedOpIsRefused :
    CommandWord.op 0x7700000000000000 ∉ assignedOps ∧ (site .idle []).ctl = .idle := ⟨by decide, rfl⟩

/-- The first and the last reserved value. -/
theorem witness_ReservedOpIsRefused_ends :
    CommandWord.op 0x0300000000000000 ∉ assignedOps ∧ CommandWord.op 0xFF00000000000000 ∉ assignedOps := by decide

/-- A NOP and another word, at a site, under the sequencer, and at FATAL. -/
theorem witness_BusyWordIsRefused :
    (rxSite .raAvail 8 []).ctl ≠ .idle ∧ (seqSite .pDelay []).ctl ≠ .idle ∧ (seqSite .fatal []).ctl ≠ .idle ∧
      CommandWord.op 0x0000000000000000 = 0x00 ∧ CommandWord.op 0x0100000000000000 ≠ 0x00 := by decide

theorem witness_NopChangesNothing : CommandWord.op 0x00FFFFFFFFFFFFFF = 0x00 := by decide

theorem witness_CrcInitSetsAllOnes : State.reset.ctl = .idle ∧ (rxSite .raAvail 8 []).ctl ≠ .idle := by decide

theorem witness_DecodeEncodeAgree : decode 0x14010400000008FF = .ok (.read 0x01 0x04 0x0000 8 0xFF) := by decide

theorem witness_IgnoredFieldsHaveNoEffect : usedOnly (.read 1 4 0 8 0xFF) = usedOnly (.read 1 0 0 8 0) := rfl

/-- RECEIVE in cur at RD_READ, and the same command with other ignored bits; `test_inv_rdRead` shows the invariant of this state. -/
theorem witness_IgnoredFieldsHaveNoEffect_later :
    usedOnly (.receive 0 0 0) = usedOnly (.receive 5 0 7) ∧
      (rxSite .rdRead 1 [.answer (.bytes g1)]).cur = encode (.receive 0 0 0) := ⟨rfl, by decide⟩

/-- IDLE, the one hypothesis of the statements about accepting CRC_INIT, CRC_BYTE, BUILD, SEND, LINK_OPEN, LINK_CONFIG, LINK_DISCARD
and DISC_START. -/
theorem witness_idle : State.reset.ctl = .idle ∧ (site .idle []).ctl = .idle := ⟨rfl, rfl⟩

theorem witness_CrcBytesComputeCrc16 :
    let s := site .idle [.present 0x0100000000000000, .present 0x0200000000000001, .present 0x02000000000000FF]
    s.ctl = .idle ∧
      s.inputs = (.present (encode (.crcInit 0)) :: [(0x01 : Byte), 0xFF].map fun b => .present (encode (.crcByte 0 b))) ++ [] := by
  decide +kernel

/-- A byte of the body and the last byte of the trailer. -/
theorem witness_SingleByteErrorIsDetected :
    frameValid g1 = true ∧ 3 < g1.length ∧ (0x14 : Byte) ≠ g1[3] ∧ 6 < g1.length ∧ (0x67 : Byte) ≠ g1[6] := by decide +kernel

/-- COUNT at both ends of its range. -/
theorem witness_ReceiveStartsReception :
    let s := site .idle []
    s.ctl = .idle ∧ s.linkOpen = true ∧ (1 ≤ (1 : Half).toNat ∧ (1 : Half).toNat ≤ 8) ∧ (1 ≤ (8 : Half).toNat ∧ (8 : Half).toNat ≤ 8) := by
  decide

/-- COUNT below, above and far above its range, and a closed link. -/
theorem witness_ReceiveStartsReception_refused :
    ¬ (1 ≤ (0 : Half).toNat ∧ (0 : Half).toNat ≤ 8) ∧ ¬ (1 ≤ (9 : Half).toNat ∧ (9 : Half).toNat ≤ 8) ∧
      ¬ (1 ≤ (0x0101 : Half).toNat ∧ (0x0101 : Half).toNat ≤ 8) ∧ State.reset.linkOpen ≠ true := by decide

theorem witness_FirstArrivalWait_delay :
    (rxSite .raDelay 8 [.answer .done]).ctl = .raDelay ∧ (rxSite .raDelay 8 [.answer .done]).inputs = .answer .done :: [] := ⟨rfl, rfl⟩

/-- No byte before and at the budget, one byte, five, and six. -/
theorem witness_FirstArrivalWait_avail (n : Nat) :
    (rxSite .raAvail 8 [.answer (.count n)]).ctl = .raAvail ∧
      (rxSite .raAvail 8 [.answer (.count n)]).inputs = .answer (.count n) :: [] := ⟨rfl, rfl⟩

theorem witness_FirstArrivalWait_budget :
    let s : State := { rxSite .raAvail 8 [.answer (.count 0)] with k := 3 }
    s.ctl = .raAvail ∧ s.inputs = .answer (.count 0) :: [] ∧ s.k = s.params.wait1Iters := ⟨rfl, rfl, rfl⟩

/-- The fifth byte arrives alone. -/
theorem witness_ExceptionTest :
    let s := rxHave .rbRead 8 [0x01, 0x84, 0x02, 0xC2] [.answer (.bytes [0xC1])]
    s.ctl = .rbRead ∧ s.inputs = .answer (.bytes [0xC1]) :: [] ∧ s.rx.rxLen.toNat < 5 ∧
      [(0xC1 : Byte)].length ≤ 5 - s.rx.rxLen.toNat := ⟨rfl, rfl, by decide, by decide⟩

/-- All five bytes at once, and none. -/
theorem witness_ExceptionTest_ends :
    let s := rxSite .rbRead 8 [.answer (.bytes (f8.take 5))]
    let t := rxSite .rbRead 8 [.answer (.bytes [])]
    (s.ctl = .rbRead ∧ s.inputs = .answer (.bytes (f8.take 5)) :: [] ∧ s.rx.rxLen.toNat < 5 ∧ (f8.take 5).length ≤ 5 - s.rx.rxLen.toNat) ∧
    (t.ctl = .rbRead ∧ t.inputs = .answer (.bytes []) :: [] ∧ t.rx.rxLen.toNat < 5) :=
  ⟨⟨rfl, rfl, by decide, by decide⟩, rfl, rfl, by decide⟩

theorem witness_CompletionWait :
    let s := rxSite .rcDelay 8 [.answer .done]
    let t := rxSite .rcAvail 8 [.answer (.count 21)]
    (s.ctl = .rcDelay ∧ s.inputs = .answer .done :: []) ∧ (t.ctl = .rcAvail ∧ t.inputs = .answer (.count 21) :: []) :=
  ⟨⟨rfl, rfl⟩, rfl, rfl⟩

/-- A whole frame of 7 bytes, the shortest. -/
theorem witness_ReadToCompletion :
    let s := rxSite .rdRead 1 [.answer (.bytes g1)]
    s.ctl = .rdRead ∧ s.inputs = .answer (.bytes g1) :: [] ∧ s.rx.rxLen.toNat < s.rx.rxWant.toNat ∧ 7 ≤ s.rx.rxWant.toNat ∧
      s.rx.rxWant.toNat ≤ 21 ∧ g1.length ≤ s.rx.rxWant.toNat - s.rx.rxLen.toNat :=
  ⟨rfl, rfl, by decide, by decide, by decide, by decide⟩

/-- The last eleven bytes of the longest frame, and a read that returns none of them. -/
theorem witness_ReadToCompletion_ends :
    let s := rxHave .rdRead 8 (f8.take 10) [.answer (.bytes (f8.drop 10))]
    s.ctl = .rdRead ∧ s.inputs = .answer (.bytes (f8.drop 10)) :: [] ∧ s.rx.rxLen.toNat < s.rx.rxWant.toNat ∧ 7 ≤ s.rx.rxWant.toNat ∧
      s.rx.rxWant.toNat ≤ 21 ∧ (f8.drop 10).length ≤ s.rx.rxWant.toNat - s.rx.rxLen.toNat ∧
      ([] : List Byte).length ≤ s.rx.rxWant.toNat - s.rx.rxLen.toNat :=
  ⟨rfl, rfl, by decide +kernel, by decide, by decide, by decide +kernel, by decide⟩

/-- The users of a reception: RECEIVE, READ, the polling loop. -/
theorem witness_ReceptionEndings :
    let s := rxSite .rdRead 8 []
    let t := { s with cur := encode (.read 1 4 0 8 0) }
    (s.mode = .cmd ∧ s.cur.op = 0x12) ∧ (t.mode = .cmd ∧ t.cur.op = 0x14) ∧ (seqSite .rdRead []).mode = .seq := by decide

theorem witness_NoResponseAfterBudget :
    let s := rxSite .raDelay 8 (pollAnswers [0, 0, 0])
    s.ctl = .raDelay ∧ s.k = 0 ∧ 1 ≤ s.params.wait1Iters ∧ s.mode = .cmd ∧ s.cur.op = 0x12 ∧
      s.inputs = pollAnswers (List.replicate s.params.wait1Iters 0) ++ [] := by decide +kernel

/-- RX1's frame in two reads. -/
theorem witness_WholeFrameIsClassified :
    let s := rxSite .raDelay 1 [.answer .done, .answer (.count 7), .answer (.bytes (g1.take 3)), .answer (.bytes (g1.drop 3))]
    let chunks := [g1.take 3, g1.drop 3]
    s.ctl = .raDelay ∧ s.mode = .cmd ∧ s.cur.op = 0x12 ∧ s.rx.rxLen = 0 ∧ s.rx.rxOk = false ∧ 7 ≤ s.rx.rxWant.toNat ∧
      s.rx.rxWant.toNat ≤ 21 ∧ s.rx.rxWant.toNat ≤ 7 ∧ (∀ c ∈ chunks, c ≠ []) ∧ chunks.flatten.length = s.rx.rxWant.toNat ∧
      s.inputs = [.answer .done, .answer (.count 7)] ++ (chunks.map fun c => .answer (.bytes c)) ++ [] := by decide +kernel

theorem witness_DecodeWritesRecord : received.ctl = .idle ∧ received.rx.rxOk = true ∧ 6 ≤ received.rx.rxN.toNat := by decide

/-- Six registers are enough, five are not, and neither is an unchecked frame. -/
theorem witness_DecodeWritesRecord_ends :
    (let s : State := { received with rx := { received.rx with rxN := 6 } }
     s.ctl = .idle ∧ s.rx.rxOk = true ∧ 6 ≤ s.rx.rxN.toNat) ∧
    (let s : State := { received with rx := { received.rx with rxN := 5 } }
     s.ctl = .idle ∧ ¬(s.rx.rxOk = true ∧ 6 ≤ s.rx.rxN.toNat)) ∧
    State.reset.ctl = .idle ∧ ¬(State.reset.rx.rxOk = true ∧ 6 ≤ State.reset.rx.rxN.toNat) := by decide

/-- READ's hypotheses are RECEIVE's: witness_ReceiveStartsReception and its refused case meet them too. -/
theorem witness_ReadBuildsRequest :
    let s := site .idle []
    (s.ctl = .idle ∧ s.linkOpen = true ∧ 1 ≤ (8 : Half).toNat ∧ (8 : Half).toNat ≤ 8) ∧
      ¬(s.linkOpen = true ∧ 1 ≤ (9 : Half).toNat ∧ (9 : Half).toNat ≤ 8) := by decide

theorem witness_SendWritesFrame :
    let s := site .sDisc [.answer .done]
    let t := site .sWrite [.answer (.status .ok)]
    (s.ctl = .sDisc ∧ s.inputs = .answer .done :: []) ∧ (t.ctl = .sWrite ∧ t.inputs = .answer (.status .ok) :: []) :=
  ⟨⟨rfl, rfl⟩, rfl, rfl⟩

theorem witness_WriteContinuations :
    let s : State := { site .sWrite [] with cur := encode (.send 0) }
    let t : State := { site .sWrite [] with cur := encode (.read 1 4 0 8 0) }
    (s.mode = .cmd ∧ s.cur.op = 0x11) ∧ (t.mode = .cmd ∧ t.cur.op = 0x14) ∧ (seqSite .sWrite []).mode = .seq := by decide

theorem witness_LinkOpenOpensOnce :
    let s : State := { State.reset with ctl := .lOpen, inputs := [.answer (.status .ok)] }
    s.ctl = .lOpen ∧ s.inputs = .answer (.status .ok) :: [] := ⟨rfl, rfl⟩

theorem witness_LinkConfigApplies :
    let s : State := { site .lConf [.answer (.status .ok)] with cur := 0x19F8000000000010 }
    s.ctl = .lConf ∧ s.inputs = .answer (.status .ok) :: [] ∧
      s.params.framings[(s.cur.data.extractLsb' 0 4).toNat]? = some ⟨0⟩ := ⟨rfl, rfl, by decide⟩

theorem witness_LinkDiscardDiscards :
    (site .lDisc [.answer .done]).ctl = .lDisc ∧ (site .lDisc [.answer .done]).inputs = .answer .done :: [] := ⟨rfl, rfl⟩

theorem witness_DiscStartOpensAndProbes :
    (seqSite .qOpen [.answer (.status .err)]).ctl = .qOpen ∧
      (seqSite .qOpen [.answer (.status .err)]).inputs = .answer (.status .err) :: [] := ⟨rfl, rfl⟩

theorem witness_ProbeConfiguresAndWrites :
    let s := seqSite .qConf [.answer (.status .ok)]
    let t := seqSite .qSdisc [.answer .done]
    let u := seqSite .qWrite [.answer (.status .err)]
    (s.ctl = .qConf ∧ s.inputs = .answer (.status .ok) :: [] ∧ candidate s.params s.ci.toNat = some ⟨0, ⟨0⟩, false, 0x01⟩) ∧
    (t.ctl = .qSdisc ∧ t.inputs = .answer .done :: []) ∧ (u.ctl = .qWrite ∧ u.inputs = .answer (.status .err) :: []) :=
  ⟨⟨rfl, rfl, by decide⟩, ⟨rfl, rfl⟩, rfl, rfl⟩

/-- One byte too few on the last poll, and exactly enough. -/
theorem witness_ProbeWaitsAndFinds :
    let s := seqSite .qDelay [.answer .done]
    let t : State := { seqSite .qAvail [.answer (.count 6)] with k := 2 }
    let u := seqSite .qAvail [.answer (.count 7)]
    (s.ctl = .qDelay ∧ s.inputs = .answer .done :: []) ∧
    (t.ctl = .qAvail ∧ t.inputs = .answer (.count 6) :: [] ∧ candidate t.params t.ci.toNat = some ⟨0, ⟨0⟩, false, 0x01⟩ ∧
      ¬ t.params.probeMinBytes ≤ 6 ∧ t.k = t.params.probeIters) ∧
    (u.ctl = .qAvail ∧ u.inputs = .answer (.count 7) :: [] ∧ candidate u.params u.ci.toNat = some ⟨0, ⟨0⟩, false, 0x01⟩ ∧
      u.params.probeMinBytes ≤ 7) :=
  ⟨⟨rfl, rfl⟩, ⟨rfl, rfl, by decide, by decide, rfl⟩, rfl, rfl, by decide, by decide⟩

theorem witness_ExhaustionRestarts :
    (seqSite .qExh []).ctl = .qExh ∧ (seqSite .qExh []).inputs = [] ∧
      (seqSite .qExh [.answer (.status .ok)]).inputs = .answer (.status .ok) :: [] ∧
      (seqSite .qExh [.internal]).inputs = .internal :: [] := ⟨rfl, rfl, rfl, rfl⟩

theorem witness_PollBuildsRequest :
    let s := seqSite .qFdisc [.answer .done]
    let t := seqSite .pDelay [.answer .done]
    (s.inputs = .answer .done :: [] ∧ s.ctl = .qFdisc) ∧ (t.inputs = .answer .done :: [] ∧ t.ctl = .pDelay) := ⟨⟨rfl, rfl⟩, rfl, rfl⟩

/-- The one candidate of the example parameters, its first and last index. -/
theorem witness_CandidateOrder :
    let p := Params.vectorDefaults
    p.Valid ∧ 0 < p.framings.length ∧ 0 < p.driverModes.length ∧ 0 < p.addresses.length ∧ 0 < p.size ∧ p.size ≤ 1 := by decide

/-- Two sweeps of one candidate: one probe that fails at its configure, one that sees too few bytes. -/
theorem witness_SearchWrapsAround :
    let probes := [FailedProbe.configureErr, .tooFew [0, 6]]
    let s := seqSite .qConf (probes.map fun q => q.events Params.vectorDefaults).flatten
    s.params.Valid ∧ s.ctl = .qConf ∧ s.ci = 0 ∧ probes.length = 2 * s.params.size ∧
      s.inputs = (probes.map fun q => q.events s.params).flatten ++ [] ∧
      (∀ q ∈ probes, q.Fails s.params) ∧ (∀ e, ([] : List Event).head? = some e → ∃ a, e = .answer a) := by
  refine ⟨by decide, rfl, rfl, rfl, by decide +kernel, ?_, by simp⟩
  intro q hq
  rcases List.mem_cons.1 hq with rfl | hq
  · trivial
  · rcases List.mem_singleton.1 hq with rfl
    exact ⟨rfl, by decide⟩

theorem witness_PollingNeverLeaves :
    let s := seqSite .pDelay [.answer .done]
    s.mode = .seq ∧ s.ctl.Polling ∧ (∀ rest, s.inputs ≠ .reset :: rest) ∧ ∃ t, step s = .next t :=
  ⟨rfl, by decide, by simp [seqSite, site], _, rfl⟩

theorem witness_ReportsOnlyGrow :
    let s := seqSite .qExh []
    (∃ t, step s = .next t) ∧ ∀ rest, s.inputs ≠ .reset :: rest := ⟨⟨_, rfl⟩, by simp [seqSite, site]⟩

/-- Q_EXH with an answer next in store, which the step leaves there. -/
theorem witness_OneTransactionPerAnswer_exh :
    (after (step (seqSite .qExh [.answer .done]))).map (fun t => t.inputs) = some [.answer .done] := rfl

theorem witness_OneTransactionPerAnswer : ∃ t, step (seqSite .pDelay [.answer .done]) = .next t := ⟨_, rfl⟩

/-- It rises at LINK_OPEN's Ok and falls at reset. -/
theorem witness_LinkOpenFlagWriters :
    (let s : State := { State.reset with ctl := .lOpen, inputs := [.answer (.status .ok)] }
     ∃ t, step s = .next t ∧ t.linkOpen ≠ s.linkOpen) ∧
    (let s := site .idle [.reset]
     ∃ t, step s = .next t ∧ t.linkOpen ≠ s.linkOpen) := ⟨⟨_, rfl, by decide⟩, _, rfl, by decide⟩

/-- LINK_CONFIG's Ok, Found, and reset. -/
theorem witness_ConfigurationWriters :
    (let s : State := { site .lConf [.answer (.status .ok)] with cur := 0x19F8000000000010 }
     ∃ t, step s = .next t ∧ t.cfg ≠ s.cfg) ∧
    (let s := site .qAvail [.answer (.count 7)]
     ∃ t, step s = .next t ∧ t.cfg ≠ s.cfg) ∧
    (let s := seqSite .pDelay [.reset]
     ∃ t, step s = .next t ∧ t.cfg ≠ s.cfg) := ⟨⟨_, rfl, by decide⟩, ⟨_, rfl, by decide⟩, _, rfl, by decide⟩

theorem witness_TransmitBufferWriters :
    let s := seqSite .pDelay [.answer .done]
    (∃ t, step s = .next t) ∧ ∀ rest, s.inputs ≠ .reset :: rest := ⟨⟨_, rfl⟩, by simp [seqSite, site]⟩

theorem witness_MeasurementWriters :
    let s : State := { received with inputs := [.present 0x1300000000000000] }
    (∃ t, step s = .next t ∧ t.dec.record ≠ s.dec.record) ∧ ∀ rest, s.inputs ≠ .reset :: rest :=
  ⟨⟨_, rfl, by decide +kernel⟩, by simp⟩

/-! ### States that meet the invariant -/

theorem test_inv_reset : State.reset.Inv := by refine ⟨?_, ?_, ?_, ?_, ?_, ?_, ?_, ?_, ⟨?_, ?_⟩, ?_, ?_⟩ <;> decide +kernel
theorem test_inv_received : received.Inv := by refine ⟨?_, ?_, ?_, ?_, ?_, ?_, ?_, ?_, ⟨?_, ?_⟩, ?_, ?_⟩ <;> decide +kernel
theorem test_inv_rdRead : (rxSite .rdRead 1 [.answer (.bytes g1)]).Inv := by refine ⟨?_, ?_, ?_, ?_, ?_, ?_, ?_, ?_, ⟨?_, ?_⟩, ?_, ?_⟩ <;> decide +kernel
theorem test_inv_qOpen : State.Inv { seqSite .qOpen [.answer (.status .ok)] with linkOpen := false } := by refine ⟨?_, ?_, ?_, ?_, ?_, ?_, ?_, ?_, ⟨?_, ?_⟩, ?_, ?_⟩ <;> decide +kernel
theorem test_inv_qConf : (seqSite .qConf [.answer (.status .err)]).Inv := by refine ⟨?_, ?_, ?_, ?_, ?_, ?_, ?_, ?_, ⟨?_, ?_⟩, ?_, ?_⟩ <;> decide +kernel
theorem test_inv_qExh : (seqSite .qExh []).Inv := by refine ⟨?_, ?_, ?_, ?_, ?_, ?_, ?_, ?_, ⟨?_, ?_⟩, ?_, ?_⟩ <;> decide +kernel
theorem test_inv_pDelay : (seqSite .pDelay [.answer .done]).Inv := by refine ⟨?_, ?_, ?_, ?_, ?_, ?_, ?_, ?_, ⟨?_, ?_⟩, ?_, ?_⟩ <;> decide +kernel
/-- It is no empty claim: a frame marked valid whose trailer is not. -/
theorem test_inv_refuses : ¬ State.FrameInv { received with rx := { received.rx with rxbuf := State.reset.rx.rxbuf } } := by decide +kernel

theorem witness_SequencerKeepsControl :
    let s := seqSite .pDelay [.answer .done]
    s.Inv ∧ s.mode = .seq ∧ (∀ rest, s.inputs ≠ .reset :: rest) ∧ ∃ t, step s = .next t :=
  ⟨test_inv_pDelay, rfl, by simp [seqSite, site], _, rfl⟩

/-- It is entered, and left, and refuses a word. -/
theorem witness_FatalIsTerminal :
    (let s : State := { seqSite .qOpen [.answer (.status .err)] with linkOpen := false }
     ∃ t, step s = .next t ∧ t.ctl = .fatal ∧ s.ctl ≠ .fatal) ∧
    (let s := seqSite .fatal [.reset]
     s.ctl = .fatal ∧ ∃ t, step s = .next t) ∧
    (let s := seqSite .fatal [.present 0x2000000000000000]
     s.ctl = .fatal ∧ ∃ t, step s = .next t) ∧
    (seqSite .fatal []).ctl = .fatal ∧ (seqSite .fatal []).inputs = [] :=
  ⟨⟨_, rfl, rfl, by decide⟩, ⟨rfl, _, rfl⟩, ⟨rfl, _, rfl⟩, rfl, rfl⟩

theorem witness_DiscoveryIsSilent :
    let s := seqSite .qConf [.answer (.status .err)]
    (s.ctl.Probing ∨ s.ctl = .qExh) ∧ (∀ w rest, s.inputs ≠ .present w :: rest) ∧ (∀ rest, s.inputs ≠ .reset :: rest) ∧
      ∃ t, step s = .next t := ⟨by decide, by simp [seqSite, site], by simp [seqSite, site], _, rfl⟩

/-- A state in the middle of a reception, a state at IDLE after one, and reset. -/
theorem witness_EveryStepKeepsInv :
    (let s := rxSite .rdRead 1 [.answer (.bytes g1)]
     s.Inv ∧ ∃ t, step s = .next t) ∧ State.Inv received ∧ State.reset.Inv :=
  ⟨⟨test_inv_rdRead, _, rfl⟩, test_inv_received, test_inv_reset⟩

theorem witness_ResetMeetsInv : Params.vectorDefaults.Valid := by decide

/-- Idle, Probing, Exhausted and Found. -/
theorem witness_RefinesSourceStateMachine :
    (let s : State := { seqSite .qOpen [.answer (.status .ok)] with linkOpen := false }
     s.Inv ∧ s.mode = .seq ∧ (∀ rest, s.inputs ≠ .reset :: rest) ∧ ∃ t, step s = .next t) ∧
    (let s := seqSite .qConf [.answer (.status .err)]
     s.Inv ∧ s.mode = .seq ∧ (∀ rest, s.inputs ≠ .reset :: rest) ∧ ∃ t, step s = .next t) ∧
    (let s := seqSite .qExh []
     s.Inv ∧ s.mode = .seq ∧ (∀ rest, s.inputs ≠ .reset :: rest) ∧ ∃ t, step s = .next t) ∧
    (let s := seqSite .pDelay [.answer .done]
     s.Inv ∧ s.mode = .seq ∧ (∀ rest, s.inputs ≠ .reset :: rest) ∧ ∃ t, step s = .next t) :=
  ⟨⟨test_inv_qOpen, rfl, by simp [seqSite, site], _, rfl⟩, ⟨test_inv_qConf, rfl, by simp [seqSite, site], _, rfl⟩,
    ⟨test_inv_qExh, rfl, by simp [seqSite, site], _, rfl⟩, test_inv_pDelay, rfl, by simp [seqSite, site], _, rfl⟩

theorem witness_HostBreachesHaveNoMove :
    (let s := rxSite .raDelay 1 []
     s.ctl ≠ .idle ∧ s.ctl ≠ .fatal ∧ s.ctl ≠ .qExh ∧ s.inputs = []) ∧
    (let s := rxSite .rdRead 1 [.answer (.bytes (g1 ++ [0]))]
     s.request = some (.read 7) ∧ s.inputs = .answer (.bytes (g1 ++ [0])) :: [] ∧ 7 < (g1 ++ [0]).length) ∧
    (let s := site .idle [.answer .done]
     (s.ctl = .idle ∨ s.ctl = .fatal) ∧ s.inputs = .answer .done :: []) :=
  ⟨⟨by decide, by decide, by decide, rfl⟩, ⟨by decide, rfl, by decide⟩, .inl rfl, rfl⟩

/-- Both ends of each gap, and no listed index among them. -/
theorem witness_ReadbackWords :
    let gap := fun n : Byte => (0x0D ≤ n.toNat ∧ n.toNat ≤ 0x0F) ∨ (0x18 ≤ n.toNat ∧ n.toNat ≤ 0x1F) ∨ 0x35 ≤ n.toNat
    (gap 0x0D ∧ gap 0x0F ∧ gap 0x18 ∧ gap 0x1F ∧ gap 0x35 ∧ gap 0xFF) ∧ ¬ gap 0x0C ∧ ¬ gap 0x10 ∧ ¬ gap 0x17 ∧ ¬ gap 0x20 ∧ ¬ gap 0x34 := by
  decide

/-- A discard with stale bytes in both buffers, then fresh bytes, one of them read; and a configure. -/
theorem witness_NoStaleBytesAfterDiscard :
    (let t : Transport := ⟨true, none, [0xAA], [0xAA], [0xEE]⟩
     let u : Transport := ⟨true, none, [0xAA], [], []⟩
     t.Serves .discardBuffers .done u ∧
       u.Runs [.arrive [0x01, 0x04], .serve (.read 1) (.bytes [0x01])] ⟨true, none, [0xAA], [], [0x04]⟩) ∧
    (let t : Transport := ⟨true, none, [], [], [0xEE]⟩
     Transaction.isConfigure (.configure ⟨0⟩ false 0x01) = true ∧
       t.Serves (.configure ⟨0⟩ false 0x01) (.status .ok) ⟨true, some (⟨0⟩, false, 0x01), [], [], []⟩) :=
  ⟨⟨rfl, _, rfl, _, ⟨by decide, rfl, rfl⟩, rfl⟩, rfl, rfl⟩

/-- Settings that change, by an Ok configure. -/
theorem witness_OnlyConfigureAppliesSettings :
    let t : Transport := ⟨true, none, [0xAA], [0xAA], [0xEE]⟩
    let u : Transport := ⟨true, some (⟨0⟩, false, 0x01), [0xAA], [], []⟩
    t.Does (.serve (.configure ⟨0⟩ false 0x01) (.status .ok)) u ∧ u.applied ≠ t.applied := ⟨rfl, by decide⟩

/-- R218 and log 17: eight bytes written, three of them transmitted; the stream keeps all, the buffer five. -/
theorem test_transmit :
    let t : Transport := ⟨true, none, [], [], []⟩
    t.Runs [.serve (.write #v[1, 2, 3, 4, 5, 6, 7, 8]) (.status .ok), .transmit 3]
      ⟨true, none, [1, 2, 3, 4, 5, 6, 7, 8], [4, 5, 6, 7, 8], []⟩ := ⟨_, rfl, _, ⟨by decide, rfl⟩, rfl⟩

/-- LNK3, item 4 decodes and is listed without its ignored bits; 0x77 is reserved. -/
theorem witness_DisassemblyAssembles :
    decode 0x19010000000000F1 = .ok (.linkConfig 0x01 0 0b111 true 1) ∧ CommandWord.op 0x7700000000000000 ∉ assignedOps := by decide

/-- R81, R73 and R90: a write answered Err may have put a part of its bytes on the stream, and never other bytes. -/
theorem test_write_err :
    let t : Transport := ⟨true, none, [0xAA], [], []⟩
    t.Serves (.write #v[1, 2, 3, 4, 5, 6, 7, 8]) (.status .err) ⟨true, none, [0xAA, 1, 2], [1, 2], []⟩ ∧
      ¬ t.Serves (.write #v[1, 2, 3, 4, 5, 6, 7, 8]) (.status .err) ⟨true, none, [0xAA, 9], [], []⟩ := by
  refine ⟨⟨rfl, rfl, [1, 2], by decide, rfl, by decide⟩, ?_⟩
  rintro ⟨-, -, sent, hs, hw, -⟩
  obtain rfl : [9] = sent := List.cons.inj hw |>.2
  exact absurd hs (by decide)

/-- Two operands in another order, one of them decimal; an operand that SEND does not list; two lines. -/
theorem witness_AssemblerReadsLines :
    (let operands : List (OperandName × Numeral) := [(.count, .decimal [1, 0]), (.addr, .hexadecimal [0xF, 8])]
     (∀ o ∈ operands, o.2.HasDigits) ∧ (operands.map Prod.fst).Nodup ∧
       (∀ o ∈ operands, o.1 ∈ (commandRow .build).2.2 ∧ o.2.value < 2 ^ (operandRow o.1).2.2) ∧
       ∃ o ∈ operands, o.1 ∉ (commandRow .send).2.2) ∧
    '\n' ∉ "nop".toList ∧ assembleLine "nop".toList = .ok [0] ∧ assembleText "send".toList = .ok [0x1100000000000000] := by
  refine ⟨⟨?_, by decide, by decide, by decide⟩, by decide, by decide +kernel, by decide +kernel⟩
  simp [Numeral.HasDigits]

/-- The largest value of a field fits and the next does not. -/
theorem witness_AssemblerReadsLines_ends :
    (Numeral.hexadecimal [0xF, 0xF]).value < 2 ^ (operandRow .data).2.2 ∧
      ¬ (Numeral.decimal [2, 5, 6]).value < 2 ^ (operandRow .data).2.2 := by decide

end Sys2Proof.Tests
end

section
/-! SUPPORT. What the host's side of the state keeps: no acceptance code and no site's continuation touches the event list or the
transaction history, so `State.issue` is their only writer within a step (00_scope R18, 20_memory R80, R93). -/

namespace Sys2Proof.Machine

/-! ### Continuations of the link and discovery sites -/

@[simp] theorem State.linkOpened_inputs (s : State) (r : Status) : (s.linkOpened r).inputs = s.inputs := by cases r <;> rfl
@[simp] theorem State.linkOpened_transactions (s : State) (r : Status) : (s.linkOpened r).transactions = s.transactions := by
  cases r <;> rfl

@[simp] theorem State.linkConfigured_inputs (s : State) (r : Status) : (s.linkConfigured r).inputs = s.inputs := by
  cases r <;> rfl
@[simp] theorem State.linkConfigured_transactions (s : State) (r : Status) :
    (s.linkConfigured r).transactions = s.transactions := by cases r <;> rfl

@[simp] theorem State.linkDiscarded_inputs (s : State) : s.linkDiscarded.inputs = s.inputs := rfl
@[simp] theorem State.linkDiscarded_transactions (s : State) : s.linkDiscarded.transactions = s.transactions := rfl

@[simp] theorem State.writeDone_inputs (s : State) (r : Status) : (s.writeDone r).inputs = s.inputs := by
  unfold State.writeDone; (repeat' split) <;> simp
@[simp] theorem State.writeDone_transactions (s : State) (r : Status) : (s.writeDone r).transactions = s.transactions := by
  unfold State.writeDone; (repeat' split) <;> simp

@[simp] theorem State.advance_inputs (s : State) : s.advance.inputs = s.inputs := by unfold State.advance; split <;> simp
@[simp] theorem State.advance_transactions (s : State) : s.advance.transactions = s.transactions := by
  unfold State.advance; split <;> simp

@[simp] theorem State.sessionOpened_inputs (s : State) (r : Status) : (s.sessionOpened r).inputs = s.inputs := by
  cases r <;> rfl
@[simp] theorem State.sessionOpened_transactions (s : State) (r : Status) :
    (s.sessionOpened r).transactions = s.transactions := by cases r <;> rfl

@[simp] theorem State.probeConfigured_inputs (s : State) (c : Candidate) (r : Status) :
    (s.probeConfigured c r).inputs = s.inputs := by cases r <;> simp [State.probeConfigured]
@[simp] theorem State.probeConfigured_transactions (s : State) (c : Candidate) (r : Status) :
    (s.probeConfigured c r).transactions = s.transactions := by cases r <;> simp [State.probeConfigured]

@[simp] theorem State.probeWritten_inputs (s : State) (r : Status) : (s.probeWritten r).inputs = s.inputs := by
  cases r <;> simp [State.probeWritten]
@[simp] theorem State.probeWritten_transactions (s : State) (r : Status) :
    (s.probeWritten r).transactions = s.transactions := by cases r <;> simp [State.probeWritten]

@[simp] theorem State.probeAvailed_inputs (s : State) (c : Candidate) (n : Nat) : (s.probeAvailed c n).inputs = s.inputs := by
  unfold State.probeAvailed; dsimp only; (repeat' split) <;> simp
@[simp] theorem State.probeAvailed_transactions (s : State) (c : Candidate) (n : Nat) :
    (s.probeAvailed c n).transactions = s.transactions := by
  unfold State.probeAvailed; dsimp only; (repeat' split) <;> simp

/-! ### Presented words, the reset event and answers -/

@[simp] theorem acceptance_transactions (i : Instr) (s : State) : (acceptance i s).transactions = s.transactions := by
  cases i
  case nop | crcInit | crcByte | build => simp [acceptance]
  case send | receive | decode | read | linkOpen | linkConfig | linkDiscard | discStart =>
    simp only [acceptance]
    split <;> simp

@[simp] theorem State.offerReserved_transactions (s : State) (w : CommandWord) :
    (s.offerReserved w).transactions = s.transactions := by
  unfold State.offerReserved State.offer; split <;> simp

@[simp] theorem State.resetEvent_transactions (s : State) : s.resetEvent.transactions = s.transactions := rfl

variable {s t : State}

/-- Presenting a command issues no transaction in the step that accepts or refuses it (R110). -/
theorem exec_keeps_transactions {i : Instr} (h : exec i s = .next t) : t.transactions = s.transactions := by
  rw [exec_eq, Host.Outcome.next.injEq] at h
  rw [← h]
  split
  · rfl
  · split <;> simp

/-- The code after a site's line consumes no further event and issues no further transaction (R18). -/
theorem resume_keeps_ports {a : Answer} (h : s.resume a = .next t) :
    t.inputs = s.inputs ∧ t.transactions = s.transactions := by
  rcases resume_cases h with ⟨r, -, -, rfl⟩ | ⟨r, -, -, rfl⟩ | ⟨-, -, rfl⟩ | ⟨-, -, rfl⟩ | ⟨r, -, -, rfl⟩ | ⟨-, -, rfl⟩ |
    ⟨n, -, -, rfl⟩ | ⟨r, -, -, -, rfl⟩ | ⟨-, -, rfl⟩ | ⟨n, -, -, rfl⟩ | ⟨r, -, -, -, rfl⟩ | ⟨r, -, -, rfl⟩ |
    ⟨c, r, -, -, -, rfl⟩ | ⟨-, -, rfl⟩ | ⟨r, -, -, rfl⟩ | ⟨-, -, rfl⟩ | ⟨c, n, -, -, -, rfl⟩ | ⟨-, -, rfl⟩ | ⟨-, -, rfl⟩ <;>
  simp

end Sys2Proof.Machine
end

section
/-! PROOF. The rules over all steps of 00_scope. -/

namespace Sys2Proof.Machine

/-- Settles O43: of the five things a step can do, only taking an answer reaches `State.issue`, once and with the site's own
transaction; the internal step at Q_EXH leaves an answer that is next where it is. -/
theorem oneTransactionPerAnswer : Obligations.OneTransactionPerAnswer := by
  intro s t h
  rcases step_cases h with ⟨w, i, rest, hi, -, hx⟩ | ⟨w, e, rest, hi, -, rfl⟩ | ⟨rest, hi, rfl⟩ | ⟨rest, hc, hi, rfl⟩ |
    ⟨a, x, rest, hi, hr, hx⟩
  · exact .inl ⟨exec_keeps_transactions (s := { s with inputs := rest }) hx, by simp [hi]⟩
  · exact .inl ⟨by simp, by simp [hi]⟩
  · exact .inl ⟨by simp, by simp [hi]⟩
  · refine .inl ⟨by simp, fun a more ha => ⟨hc, ?_⟩⟩
    rcases hi with hi | hi
    · simp [hi] at ha
    · simp [hi]
  · obtain ⟨hin, htr⟩ := resume_keeps_ports hx
    exact .inr ⟨a, rest, x, hi, hin, hr, htr⟩

end Sys2Proof.Machine
end

section
/-! SUPPORT. The machine's invariant in two halves (Safety): what the registers hold wherever the engine is, and what the control
point in ctl adds to it, one line per control point of 10_state R40. -/

namespace Sys2Proof.Machine

/-- A result whose payload is the one its code has (R44, R125). -/
def Result.WellFormed (r : Result) : Prop :=
  r.kind ≠ .configurationExhausted ∧ (r.kind ≠ .partialFrame → r.b = 0) ∧
  (r.kind ≠ .partialFrame → r.kind ≠ .deviceException → r.a = 0) ∧ (r.kind = .partialFrame → r.a.toNat < r.b.toNat)

/-- The clauses of `State.Inv` that hold at every control point. -/
structure State.RegistersInv (s : State) : Prop where
  params : s.params.Valid
  ci : s.ci.toNat < s.params.size
  lengths : s.LengthsInv
  frame : s.FrameInv
  record : s.RecordInv
  request : s.RequestInv
  result : s.res.WellFormed

/-- A request write under way: a built frame, and a user that goes on after it (R219 to R221). -/
structure State.SendingInv (s : State) : Prop where
  link : s.linkOpen = true
  built : s.enc.txValid = true
  user : s.SharedBy [0x11, 0x14]
  count : s.mode = .cmd → s.cur.op = 0x14 → countOk s.cur.count = true

/-- Who a reception belongs to: RECEIVE, READ or the polling loop (R188). -/
structure State.ReceiverUser (s : State) : Prop where
  link : s.linkOpen = true
  user : s.SharedBy [0x12, 0x14]
  pollCount : s.mode = .seq → s.rx.rxN = 8

/-- A reception under way: begun, and its frame not checked yet (R182). -/
structure State.ReceptionInv (s : State) : Prop extends s.ReceiverUser where
  begun : 1 ≤ s.rx.rxN.toNat
  unchecked : s.rx.rxOk = false

/-- DISC_START runs, on an open link (R235, R236). -/
structure State.SearchInv (s : State) : Prop where
  mode : s.mode = .seq
  op : s.cur.op = 0x20
  link : s.linkOpen = true

/-- The clauses of `State.Inv` for the control point in ctl. -/
def State.SiteInv (s : State) : Prop :=
  match s.ctl with
  | .idle => s.mode = .cmd
  | .lOpen => s.mode = .cmd ∧ s.cur.op = 0x18 ∧ s.linkOpen = false
  | .lConf => s.mode = .cmd ∧ s.cur.op = 0x19 ∧ s.linkOpen = true ∧ s.cur.framing.toNat < s.params.nf
  | .lDisc => s.mode = .cmd ∧ s.cur.op = 0x1A ∧ s.linkOpen = true
  | .sDisc => s.SendingInv
  | .sWrite => s.SendingInv
  | .raDelay => s.ReceptionInv ∧ s.rx.rxLen = 0 ∧ s.k < s.params.wait1Iters
  | .raAvail => s.ReceptionInv ∧ s.rx.rxLen = 0 ∧ 1 ≤ s.k ∧ s.k ≤ s.params.wait1Iters
  | .rbRead => s.ReceptionInv ∧ s.rx.rxLen.toNat < 5
  | .rcDelay =>
    s.ReceptionInv ∧ (s.rx.rxLen = 0 ∨ s.rx.rxLen = 5) ∧ s.k < s.params.wait2Iters ∧
      s.rx.rxLen.toNat + s.avail < s.rx.rxWant.toNat
  | .rcAvail => s.ReceptionInv ∧ (s.rx.rxLen = 0 ∨ s.rx.rxLen = 5) ∧ 1 ≤ s.k ∧ s.k ≤ s.params.wait2Iters
  | .rdRead => s.ReceptionInv ∧ s.rx.rxLen.toNat < s.rx.rxWant.toNat
  | .qOpen => s.mode = .seq ∧ s.cur.op = 0x20 ∧ s.linkOpen = false
  | .qConf => s.SearchInv
  | .qSdisc => s.SearchInv ∧ s.enc.txValid = true
  | .qWrite => s.SearchInv ∧ s.enc.txValid = true
  | .qDelay => s.SearchInv ∧ s.k < s.params.probeIters
  | .qAvail => s.SearchInv ∧ 1 ≤ s.k ∧ s.k ≤ s.params.probeIters
  | .qFdisc => s.SearchInv ∧ s.FoundInv
  | .qExh => s.SearchInv
  | .pDelay => s.SearchInv ∧ s.FoundInv
  | .fatal => s.mode = .seq ∧ s.cur.op = 0x20 ∧ s.linkOpen = false

variable {s : State}

theorem State.sendingInv_iff : s.SendingInv ↔ s.linkOpen = true ∧ s.enc.txValid = true ∧ s.SharedBy [0x11, 0x14] ∧
    (s.mode = .cmd → s.cur.op = 0x14 → countOk s.cur.count = true) :=
  ⟨fun h => ⟨h.link, h.built, h.user, h.count⟩, fun ⟨link, built, user, count⟩ => ⟨link, built, user, count⟩⟩

theorem State.receptionInv_iff : s.ReceptionInv ↔ s.linkOpen = true ∧ 1 ≤ s.rx.rxN.toNat ∧ s.rx.rxOk = false ∧
    s.SharedBy [0x12, 0x14] ∧ (s.mode = .seq → s.rx.rxN = 8) :=
  ⟨fun h => ⟨h.link, h.begun, h.unchecked, h.user, h.pollCount⟩,
    fun ⟨link, begun, unchecked, user, count⟩ => ⟨⟨link, user, count⟩, begun, unchecked⟩⟩

theorem State.searchInv_iff : s.SearchInv ↔ s.mode = .seq ∧ s.cur.op = 0x20 ∧ s.linkOpen = true :=
  ⟨fun h => ⟨h.mode, h.op, h.link⟩, fun ⟨mode, op, link⟩ => ⟨mode, op, link⟩⟩

/-- At one control point all clauses of `State.Inv` about other control points are empty. -/
theorem State.siteInv_iff : s.SiteInv ↔ s.CommandInv ∧ s.SharedInv ∧ s.PhaseInv ∧ s.SequencerInv := by
  unfold State.SiteInv
  cases hc : s.ctl <;>
    simp [State.CommandInv, State.SharedInv, State.PhaseInv, State.SequencerInv, State.sendingInv_iff, State.receptionInv_iff,
      State.searchInv_iff, hc, and_assoc]

theorem State.inv_iff : s.Inv ↔ s.RegistersInv ∧ s.SiteInv := by
  rw [State.siteInv_iff]
  constructor
  · rintro ⟨params, ci, lengths, frame, record, request, result, sites⟩
    exact ⟨⟨params, ci, lengths, frame, record, request, result⟩, sites⟩
  · rintro ⟨⟨params, ci, lengths, frame, record, request, result⟩, sites⟩
    exact ⟨params, ci, lengths, frame, record, request, result, sites⟩

end Sys2Proof.Machine
end

section
/-! SUPPORT. How the shared operations keep the machine's invariant: outcomes, the request write, the phases of a reception
(41_frame_codec R182 to R189), and the search (43_discovery R237 to R242). -/

namespace Sys2Proof.Machine

/-! ### Payloads -/

/-- Without a payload every code but two is a result. -/
theorem Result.wellFormed_unit {code : ResultCode} (h : code ≠ .configurationExhausted ∧ code ≠ .partialFrame := by decide) :
    Result.WellFormed ⟨code, 0, 0⟩ := ⟨h.1, fun _ => rfl, fun _ _ => rfl, fun hp => absurd hp h.2⟩

theorem Result.wellFormed_deviceException (a : Byte) : Result.WellFormed ⟨.deviceException, a, 0⟩ :=
  ⟨nofun, fun _ => rfl, fun _ h => absurd rfl h, nofun⟩

theorem Result.wellFormed_partialFrame {a b : Byte} (h : a.toNat < b.toNat) : Result.WellFormed ⟨.partialFrame, a, b⟩ :=
  ⟨nofun, fun hp => absurd rfl hp, fun hp => absurd rfl hp, fun _ => h⟩

/-! ### Frames -/

/-- A built request is a valid frame: its trailer is its own CRC (R173). -/
theorem frameValid_buildFrame (a fc : Byte) (start n : Half) : frameValid (buildFrame a fc start n).toList = true := by
  have htake := List.take_left' (l₂ := crcTrailer (crc16 (frameHeader a fc start n))) (frameHeader_length a fc start n)
  have hdrop := List.drop_left' (l₂ := crcTrailer (crc16 (frameHeader a fc start n))) (frameHeader_length a fc start n)
  rw [frameValid, Vector.length_toList, buildFrame_toList, htake, hdrop]
  simp

section
variable {s : State}

/-! ### Outcomes -/

theorem State.complete_inv (hd : s.RegistersInv) (hm : s.mode = .cmd) {code : ResultCode} {a b : Byte}
    (hr : Result.WellFormed ⟨code, a, b⟩) (op : Byte) : (s.complete op code a b).Inv :=
  State.inv_iff.2 ⟨{ hd with result := hr }, hm⟩

theorem State.refuse_inv (hd : s.RegistersInv) (hm : s.mode = .cmd) : s.refuse.Inv :=
  State.complete_inv hd hm Result.wellFormed_unit _

/-- A command that is refused when a test says so has to keep the invariant only where the test says no (R19). -/
theorem State.refuse_or_inv (hd : s.RegistersInv) (hm : s.mode = .cmd) {refuses : Bool} {u : State}
    (h : refuses = false → u.Inv) : (if refuses then s.refuse else u).Inv := by
  cases refuses with
  | false => exact h rfl
  | true => exact State.refuse_inv hd hm

/-- The busy refusal writes the result registers and nothing a control point's clauses look at (R111). -/
theorem State.refuseBusy_inv (h : s.Inv) (op : Byte) : (s.refuseBusy op).Inv := by
  obtain ⟨hd, hs⟩ := State.inv_iff.1 h
  exact State.inv_iff.2 ⟨{ hd with result := Result.wellFormed_unit }, State.siteInv_iff.2 (State.siteInv_iff (s := s).1 hs)⟩

/-! ### The request write -/

theorem State.loadTx_registersInv (hd : s.RegistersInv) (a fc : Byte) (start n : Half) :
    (s.loadTx a fc start n).RegistersInv :=
  { hd with request := fun _ => frameValid_buildFrame a fc start n }

/-- A request write may begin at either of its sites (R220, R238). -/
theorem State.gotoSend_inv (hd : s.RegistersInv) {discard write : Ctl} (hdiscard : (s.goto discard).SiteInv)
    (hwrite : (s.goto write).SiteInv) : (s.gotoSend discard write).Inv := by
  refine State.inv_iff.2 ⟨{ hd with }, ?_⟩
  unfold State.gotoSend
  split
  · exact hdiscard
  · exact hwrite

/-- The write shared by SEND, READ and the polling read: both its sites make the same demands (R219). -/
theorem State.gotoSend_shared_inv (hd : s.RegistersInv) (h : s.SendingInv) : (s.gotoSend .sDisc .sWrite).Inv :=
  State.gotoSend_inv hd { h with } { h with }

/-- R243: the polling read's request, at the address Found latched. -/
theorem State.pollBegin_inv (hd : s.RegistersInv) (h : s.SearchInv) (hf : s.FoundInv) : s.pollBegin.Inv :=
  State.gotoSend_shared_inv (State.loadTx_registersInv hd ..)
    ⟨h.link, rfl, .inr ⟨h.mode, h.op, hf⟩, fun hm => absurd (h.mode.symm.trans hm) (by decide)⟩

/-! ### Decoding and the end of a reception -/

theorem State.decodeIntoM_registersInv (hd : s.RegistersInv) (hok : s.rx.rxOk = true) (hn : 6 ≤ s.rx.rxN.toNat) :
    s.decodeIntoM.RegistersInv :=
  { hd with record := fun _ => ⟨hok, hn, rfl⟩ }

/-- R199: READ decodes only a checked frame of at least six registers. -/
theorem State.readAfterRx_inv (hd : s.RegistersInv) (hm : s.mode = .cmd) {code : ResultCode} {a b : Byte}
    (hok : code = .ok → s.rx.rxOk = true) (hr : Result.WellFormed ⟨code, a, b⟩) : (s.readAfterRx code a b).Inv := by
  unfold State.readAfterRx
  split
  · rename_i h
    exact State.complete_inv (State.decodeIntoM_registersInv hd (hok h.1) h.2) hm hr _
  · exact State.complete_inv hd hm hr _

/-- R244: a polling read ends at the wait for the next one. -/
theorem State.pollAfterRx_inv (hd : s.RegistersInv) (h : s.SearchInv) (hf : s.FoundInv) {code : ResultCode} {a b : Byte}
    (hok : code = .ok → s.rx.rxOk = true ∧ 6 ≤ s.rx.rxN.toNat) (hr : Result.WellFormed ⟨code, a, b⟩) :
    (s.pollAfterRx code a b).Inv := by
  have hsite : s.SearchInv ∧ s.FoundInv := ⟨h, hf⟩
  unfold State.pollAfterRx
  split
  · rename_i hc
    have hdec := State.decodeIntoM_registersInv hd (hok hc).1 (hok hc).2
    exact State.inv_iff.2 ⟨{ hdec with result := Result.wellFormed_unit }, { h with }, hf⟩
  · exact State.inv_iff.2 ⟨{ hd with result := hr }, { h with }, hf⟩

/-- R188: whoever the reception belongs to, its end keeps the invariant; OK needs a checked frame. -/
theorem State.rxDone_inv (hd : s.RegistersInv) (hu : s.ReceiverUser) {code : ResultCode} {a b : Byte}
    (hok : code = .ok → s.rx.rxOk = true) (hr : Result.WellFormed ⟨code, a, b⟩) : (s.rxDone code a b).Inv := by
  rcases hu.user with ⟨hm, hop⟩ | ⟨hm, hop, hf⟩
  · rcases List.mem_pair.1 hop with hop | hop
    · rw [State.rxDone_receive hm hop]
      exact State.complete_inv hd hm hr _
    · rw [State.rxDone_read hm hop]
      exact State.readAfterRx_inv hd hm hok hr
  · rw [State.rxDone_poll hm]
    exact State.pollAfterRx_inv hd ⟨hm, hop, hu.link⟩ hf (fun h => ⟨hok h, by simp [hu.pollCount hm]⟩) hr

/-! ### A reception begins (R182) -/

theorem State.rxBegin_inv (hd : s.RegistersInv) (hl : s.linkOpen = true) (hu : s.SharedBy [0x12, 0x14]) {n : Half}
    (hn : countOk n = true) (hp : s.mode = .seq → n = 8) : (s.rxBegin n).Inv := by
  obtain ⟨h1, h8⟩ := (countOk_iff n).1 hn
  obtain ⟨-, -, -, ⟨hwait, -, -⟩, -⟩ := hd.params
  have hrxN : (n.setWidth 8).toNat = n.toNat := by simp; omega
  have hlen : (s.rxBegin n).LengthsInv := .inr (by simp only [State.rxBegin_rx, hrxN, wantLen_eq]; simp; omega)
  exact State.inv_iff.2 ⟨{ hd with lengths := hlen, frame := nofun, record := nofun },
    ⟨⟨hl, hu, fun hm => by simp [hp hm]⟩, by simp only [State.rxBegin_rx, hrxN]; exact h1, rfl⟩, rfl, hwait⟩

/-! ### The phases of a reception -/

/-- The lengths of a reception under way (R37, R181). -/
theorem State.ReceptionInv.lengths (h : s.ReceptionInv) (hd : s.RegistersInv) :
    1 ≤ s.rx.rxN.toNat ∧ s.rx.rxN.toNat ≤ 8 ∧ s.rx.rxWant.toNat = 5 + 2 * s.rx.rxN.toNat ∧
      s.rx.rxLen.toNat ≤ s.rx.rxWant.toNat :=
  hd.lengths.resolve_left fun hn => by simpa [hn.1] using h.begun

/-- R185: the completion wait goes on to the read, ends, or waits within its budget. -/
theorem State.checkC_inv (hd : s.RegistersInv) (h : s.ReceptionInv) (hl : s.rx.rxLen = 0 ∨ s.rx.rxLen = 5)
    (hk : s.k ≤ s.params.wait2Iters) : s.checkC.Inv := by
  obtain ⟨h1, h8, hw, -⟩ := h.lengths hd
  unfold State.checkC
  split
  · have hlt : s.rx.rxLen.toNat < s.rx.rxWant.toNat := by rcases hl with hl | hl <;> simp [hl] <;> omega
    exact State.inv_iff.2 ⟨{ hd with }, { h with }, hlt⟩
  · rename_i hshort
    split
    · refine State.rxDone_inv hd h.toReceiverUser nofun (Result.wellFormed_partialFrame ?_)
      rw [BitVec.toNat_ofNat]
      omega
    · rename_i hbudget
      exact State.inv_iff.2 ⟨{ hd with }, { h with }, hl, Nat.lt_of_le_of_ne hk hbudget, Nat.lt_of_not_le hshort⟩

theorem State.enterC_inv (hd : s.RegistersInv) (h : s.ReceptionInv) (hl : s.rx.rxLen = 0 ∨ s.rx.rxLen = 5) : s.enterC.Inv :=
  State.checkC_inv { hd with } { h with } hl (Nat.zero_le _)

/-- R183: the first-arrival wait. -/
theorem State.raAvailed_inv (hd : s.RegistersInv) (h : s.ReceptionInv) (hl : s.rx.rxLen = 0) (hk : s.k ≤ s.params.wait1Iters)
    (n : Nat) : (s.raAvailed n).Inv := by
  have hd' : (s.setAvail n).RegistersInv := { hd with }
  have h' : (s.setAvail n).ReceptionInv := { h with }
  unfold State.raAvailed
  dsimp only
  split
  · split
    · exact State.inv_iff.2 ⟨{ hd with }, { h with }, by simp [hl]⟩
    · exact State.enterC_inv hd' h' (.inl hl)
  · split
    · exact State.rxDone_inv hd' h'.toReceiverUser nofun Result.wellFormed_unit
    · rename_i hbudget
      exact State.inv_iff.2 ⟨{ hd with }, { h with }, hl, Nat.lt_of_le_of_ne hk hbudget⟩

/-- Storing at most what is missing moves rx_len by exactly the bytes stored (R184, R186). -/
theorem State.storeBytes_rxLen_toNat (hd : s.RegistersInv) (h : s.ReceptionInv) {r : List Byte}
    (hr : s.rx.rxLen.toNat + r.length ≤ s.rx.rxWant.toNat) :
    (s.storeBytes r).rx.rxLen.toNat = s.rx.rxLen.toNat + r.length := by
  obtain ⟨h1, h8, hw, -⟩ := h.lengths hd
  simp only [State.storeBytes_rx, BitVec.toNat_add, BitVec.toNat_ofNat]
  omega

/-- Storing bytes in a reception: no frame is marked as checked yet, so only the lengths are at stake. -/
theorem State.storeBytes_registersInv (hd : s.RegistersInv) (h : s.ReceptionInv) {r : List Byte}
    (hr : s.rx.rxLen.toNat + r.length ≤ s.rx.rxWant.toNat) : (s.storeBytes r).RegistersInv := by
  obtain ⟨h1, h8, hw, -⟩ := h.lengths hd
  have hno : s.rx.rxOk ≠ true := by simp [h.unchecked]
  exact { hd with
    lengths := .inr ⟨h1, h8, hw, (State.storeBytes_rxLen_toNat hd h hr).trans_le hr⟩
    frame := fun hok => absurd hok hno
    record := fun hm => absurd (hd.record hm).1 hno }

/-- R184: the exception test. -/
theorem State.rbGot_inv (hd : s.RegistersInv) (h : s.ReceptionInv) (hl : s.rx.rxLen.toNat < 5) {r : List Byte}
    (hr : r.length ≤ s.excMissing) : (s.rbGot r).Inv := by
  obtain ⟨h1, -, hw, -⟩ := h.lengths hd
  have hr5 : s.rx.rxLen.toNat + r.length ≤ 5 := by unfold State.excMissing Config.excLen at hr; omega
  have hlen := State.storeBytes_rxLen_toNat hd h (hr5.trans (by omega))
  have hd' := State.storeBytes_registersInv hd h (hr5.trans (by omega))
  have h' : (s.storeBytes r).ReceptionInv := { h with }
  unfold State.rbGot
  dsimp only
  split
  · exact State.rxDone_inv hd h.toReceiverUser nofun (Result.wellFormed_partialFrame (by omega))
  · split
    · rename_i hmore
      exact State.inv_iff.2 ⟨{ hd' with }, { h' with }, hmore⟩
    · rename_i hall
      split
      · exact State.rxDone_inv hd' h'.toReceiverUser nofun (Result.wellFormed_deviceException _)
      · have h5 : (s.storeBytes r).rx.rxLen = 5 := BitVec.eq_of_toNat_eq (by unfold Config.excLen at hall; simp; omega)
        exact State.enterC_inv { hd' with } { h' with } (.inr h5)

/-- R187: rx_ok is set only over a whole frame whose trailer is its CRC. -/
theorem State.checkE_inv (hd : s.RegistersInv) (h : s.ReceptionInv) (hl : s.rx.rxLen = s.rx.rxWant) : s.checkE.Inv := by
  obtain ⟨h1, h8, hw, -⟩ := h.lengths hd
  unfold State.checkE
  dsimp only
  split
  · rename_i htrailer
    have hvalid : frameValid s.frame = true := frameValid_take (by omega) (by simp; omega) htrailer
    have hd' : State.RegistersInv { s with crc := s.frameCrc, rx := { s.rx with rxOk := true } } :=
      { hd with lengths := .inr (h.lengths hd), frame := fun _ => ⟨hl, hvalid⟩, record := fun hm => ⟨rfl, (hd.record hm).2⟩ }
    exact State.rxDone_inv hd' { h.toReceiverUser with } (fun _ => rfl) Result.wellFormed_unit
  · exact State.rxDone_inv (s := { s with crc := s.frameCrc }) { hd with } { h.toReceiverUser with } nofun
      Result.wellFormed_unit

/-- R186: the read to completion. -/
theorem State.rdGot_inv (hd : s.RegistersInv) (h : s.ReceptionInv) (hl : s.rx.rxLen.toNat < s.rx.rxWant.toNat) {r : List Byte}
    (hr : r.length ≤ s.missing) : (s.rdGot r).Inv := by
  have hrw : s.rx.rxLen.toNat + r.length ≤ s.rx.rxWant.toNat := by unfold State.missing at hr; omega
  have hlen := State.storeBytes_rxLen_toNat hd h hrw
  have hd' := State.storeBytes_registersInv hd h hrw
  have h' : (s.storeBytes r).ReceptionInv := { h with }
  unfold State.rdGot
  dsimp only
  split
  · exact State.rxDone_inv hd h.toReceiverUser nofun (Result.wellFormed_partialFrame hl)
  · split
    · rename_i hmore
      exact State.inv_iff.2 ⟨{ hd' with }, { h' with }, hmore⟩
    · rename_i hall
      exact State.checkE_inv hd' h' (BitVec.eq_of_toNat_eq (by simp only [State.storeBytes_rx] at *; omega))

/-! ### The search -/

/-- R237: every probe begins at a candidate. -/
theorem State.probeBegin_inv (hd : s.RegistersInv) (h : s.SearchInv) {i : Half} (hi : i.toNat < s.params.size) :
    (s.probeBegin i).Inv := State.inv_iff.2 ⟨{ hd with ci := hi }, { h with }⟩

/-- R240: the next candidate's index still fits ci (R233). -/
theorem State.advance_inv (hd : s.RegistersInv) (h : s.SearchInv) : s.advance.Inv := by
  unfold State.advance
  split
  · rename_i hnext
    refine State.probeBegin_inv hd h ?_
    have hsize := Params.size_le hd.params
    bv_omega
  · exact State.inv_iff.2 ⟨{ hd with }, { h with }⟩

/-- R242: after the last candidate the search starts again at the first. -/
theorem State.exhaust_inv (hd : s.RegistersInv) (h : s.SearchInv) : s.exhaust.Inv :=
  State.probeBegin_inv (s := s.emit .exhausted) { hd with } { h with } (Params.size_pos hd.params)

/-- R241: Found latches the candidate that ci names. -/
theorem State.found_inv (hd : s.RegistersInv) (h : s.SearchInv) {c : Candidate} (hc : s.candidate = some c) :
    (s.found c).Inv :=
  State.inv_iff.2 ⟨{ hd with }, { h with }, rfl, congrArg (Option.map _) hc⟩

end

end Sys2Proof.Machine
end

section
/-! PROOF. Every step keeps the machine's invariant, case by case of what a step can do. -/

namespace Sys2Proof.Machine

section
variable {s t : State}

/-! ### Reset (R60, R300) -/

/-- After reset nothing is received, built, decoded or reported, and ci = 0 names the first candidate. -/
theorem State.resetWith_inv {p : Params} (hp : p.Valid) : (State.resetWith p).Inv :=
  State.inv_iff.2 ⟨⟨hp, Params.size_pos hp, .inl ⟨rfl, rfl, rfl, rfl⟩, nofun, nofun, nofun,
    Result.wellFormed_unit⟩, rfl⟩

/-! ### Acceptance (R110) -/

/-- Each command's acceptance code, at IDLE with the command latched, keeps the invariant. -/
theorem acceptance_inv {i : Instr} (hd : s.RegistersInv) (hidle : s.ctl = .idle) (hm : s.mode = .cmd) (hw : s.cur = encode i) :
    (acceptance i s).Inv := by
  have hok : Result.WellFormed ⟨.ok, 0, 0⟩ := Result.wellFormed_unit
  have hop : s.cur.op = i.op := by rw [hw, encode_op]
  cases i with
  | nop ign => exact State.inv_iff.2 ⟨hd, by unfold State.SiteInv; rw [acceptance, hidle]; exact hm⟩
  | crcInit ign => exact State.complete_inv (s := { s with crc := _ }) { hd with } hm hok 0x01
  | crcByte ign data => exact State.complete_inv (s := { s with crc := _ }) { hd with } hm hok 0x02
  | build addr fc start count ign => exact State.complete_inv (State.loadTx_registersInv hd ..) hm hok _
  | send ign =>
    refine State.refuse_or_inv hd hm fun hr => ?_
    obtain ⟨hl, ht⟩ := s.refusesSend_false.1 hr
    exact State.gotoSend_shared_inv hd ⟨hl, ht, .inl ⟨hm, by simp [hop, Instr.op]⟩, by simp [hop, Instr.op]⟩
  | receive ignHi count ignLo =>
    refine State.refuse_or_inv hd hm fun hr => ?_
    obtain ⟨hl, hn⟩ := (s.refusesCount_false count).1 hr
    exact State.rxBegin_inv hd hl (.inl ⟨hm, by simp [hop, Instr.op]⟩) ((countOk_iff count).2 hn) (by simp [hm])
  | decode ign =>
    refine State.refuse_or_inv hd hm fun hr => ?_
    obtain ⟨hrx, hn⟩ := s.refusesDecode_false.1 hr
    exact State.complete_inv (State.decodeIntoM_registersInv hd hrx hn) hm hok _
  | read addr ignFc start count ignData =>
    refine State.refuse_or_inv hd hm fun hr => ?_
    obtain ⟨hl, hn⟩ := (s.refusesCount_false count).1 hr
    obtain ⟨-, -, -, hcount⟩ := Laws.OperandsAtFields.read addr ignFc start count ignData
    exact State.gotoSend_shared_inv (State.loadTx_registersInv hd ..)
      ⟨hl, rfl, .inl ⟨hm, by simp [hop, Instr.op]⟩, fun _ _ => by simpa [hw, hcount] using (countOk_iff count).2 hn⟩
  | linkOpen ign =>
    by_cases hl : s.linkOpen = true
    · rw [acceptance, if_pos hl]
      exact State.complete_inv hd hm hok _
    · rw [acceptance, if_neg hl]
      exact State.inv_iff.2 ⟨{ hd with }, hm, hop, Bool.eq_false_iff.2 hl⟩
  | linkConfig addr ignMid ignTop driver framing =>
    refine State.refuse_or_inv hd hm fun hr => ?_
    obtain ⟨hl, hf⟩ := (s.refusesConfig_false framing).1 hr
    obtain ⟨-, -, -, hframing⟩ := Laws.OperandsAtFields.linkConfig addr ignMid ignTop driver framing
    exact State.inv_iff.2 ⟨{ hd with }, hm, hop, hl, by simpa [hw, hframing] using hf⟩
  | linkDiscard ign =>
    refine State.refuse_or_inv hd hm fun hr => ?_
    exact State.inv_iff.2 ⟨{ hd with }, hm, hop, s.refusesDiscard_false.1 hr⟩
  | discStart ign =>
    have hci : (0 : Half).toNat < s.params.size := Params.size_pos hd.params
    by_cases hl : s.linkOpen = true
    · rw [acceptance, if_pos hl]
      exact State.probeBegin_inv (s := { s with mode := .seq, ci := 0 }) { hd with ci := hci } ⟨rfl, hop, hl⟩ hci
    · rw [acceptance, if_neg hl]
      exact State.inv_iff.2 ⟨{ hd with ci := hci }, rfl, hop, Bool.eq_false_iff.2 hl⟩

/-- At IDLE the latch makes ready for acceptance (R110). -/
theorem State.latch_registersInv (hd : s.RegistersInv) (w : CommandWord) : (s.latch w).RegistersInv := { hd with }

/-- R110, R111, R210: whatever command is presented, wherever the engine is. -/
theorem exec_inv {i : Instr} (h : s.Inv) (he : exec i s = .next t) : t.Inv := by
  have hd := (State.inv_iff.1 h).1
  rw [exec_eq, Host.Outcome.next.injEq] at he
  rw [← he]
  split
  · exact h
  · split
    · exact acceptance_inv (State.latch_registersInv hd _) ‹_› rfl rfl
    · exact State.refuseBusy_inv h _

/-- R115: a reserved OP is refused, at IDLE or busy. -/
theorem State.offerReserved_inv (h : s.Inv) (w : CommandWord) : (s.offerReserved w).Inv := by
  unfold State.offerReserved
  by_cases hc : s.ctl = .idle
  · rw [State.offer_idle hc]
    exact State.refuse_inv (State.latch_registersInv (State.inv_iff.1 h).1 w) rfl
  · rw [State.offer_busy hc]
    exact State.refuseBusy_inv h _

/-! ### Answers (R18) -/

/-- R221: after the write, its user goes on. -/
theorem State.writeDone_inv (hd : s.RegistersInv) (h : s.SendingInv) (r : Status) : (s.writeDone r).Inv := by
  rcases h.user with ⟨hm, hop⟩ | ⟨hm, hop, hf⟩
  · rcases List.mem_pair.1 hop with hop | hop
    · rw [State.writeDone_send hm hop]
      cases r <;> exact State.complete_inv hd hm Result.wellFormed_unit _
    · rw [State.writeDone_read hm hop]
      cases r with
      | ok => exact State.rxBegin_inv hd h.link (.inl ⟨hm, by simp [hop]⟩) (h.count hm hop) (by simp [hm])
      | err => exact State.complete_inv hd hm Result.wellFormed_unit _
  · rw [State.writeDone_poll hm]
    cases r with
    | ok => exact State.rxBegin_inv hd h.link (.inr ⟨hm, hop, hf⟩) (by decide) (fun _ => rfl)
    | err => exact State.pollAfterRx_inv (code := .transportFailure) hd ⟨hm, hop, h.link⟩ hf nofun Result.wellFormed_unit

/-- R236: the session's open. -/
theorem State.sessionOpened_inv (hd : s.RegistersInv) (h : s.mode = .seq ∧ s.cur.op = 0x20 ∧ s.linkOpen = false) (r : Status) :
    (s.sessionOpened r).Inv := by
  cases r with
  | ok => exact State.probeBegin_inv (s := s.openLink) { hd with } ⟨h.1, h.2.1, rfl⟩ (Params.size_pos hd.params)
  | err => exact State.inv_iff.2 ⟨{ hd with result := Result.wellFormed_unit }, h⟩

/-- R237, R238: the probe's Configure. -/
theorem State.probeConfigured_inv (hd : s.RegistersInv) (h : s.SearchInv) (c : Candidate) (r : Status) :
    (s.probeConfigured c r).Inv := by
  cases r with
  | ok => exact State.gotoSend_inv (State.loadTx_registersInv hd ..) ⟨{ h with }, rfl⟩ ⟨{ h with }, rfl⟩
  | err => exact State.advance_inv hd h

/-- R238: the probe's write. -/
theorem State.probeWritten_inv (hd : s.RegistersInv) (h : s.SearchInv) (r : Status) : (s.probeWritten r).Inv := by
  cases r with
  | ok =>
    obtain ⟨-, -, -, ⟨-, -, hprobe⟩, -⟩ := hd.params
    exact State.inv_iff.2 ⟨{ hd with }, { h with }, hprobe⟩
  | err => exact State.advance_inv hd h

/-- R239: the probe's availability query. -/
theorem State.probeAvailed_inv (hd : s.RegistersInv) (h : s.SearchInv) (hk : s.k ≤ s.params.probeIters) {c : Candidate}
    (hc : s.candidate = some c) (n : Nat) : (s.probeAvailed c n).Inv := by
  unfold State.probeAvailed
  dsimp only
  split
  · exact State.found_inv (s := s.setAvail n) { hd with } { h with } hc
  · split
    · exact State.advance_inv (s := s.setAvail n) { hd with } { h with }
    · rename_i hbudget
      exact State.inv_iff.2 ⟨{ hd with }, { h with }, Nat.lt_of_le_of_ne hk hbudget⟩

/-- The answer of each transaction site keeps the invariant (R40). -/
theorem resume_inv {a : Answer} (h : s.Inv) (hr : s.resume a = .next t) : t.Inv := by
  obtain ⟨hd, hs⟩ := State.inv_iff.1 h
  have hok : Result.WellFormed ⟨.ok, 0, 0⟩ := Result.wellFormed_unit
  rcases resume_cases hr with ⟨r, hc, -, rfl⟩ | ⟨r, hc, -, rfl⟩ | ⟨hc, -, rfl⟩ | ⟨hc, -, rfl⟩ | ⟨r, hc, -, rfl⟩ | ⟨hc, -, rfl⟩ |
    ⟨n, hc, -, rfl⟩ | ⟨r, hc, -, hlen, rfl⟩ | ⟨hc, -, rfl⟩ | ⟨n, hc, -, rfl⟩ | ⟨r, hc, -, hlen, rfl⟩ | ⟨r, hc, -, rfl⟩ |
    ⟨c, r, hc, -, -, rfl⟩ | ⟨hc, -, rfl⟩ | ⟨r, hc, -, rfl⟩ | ⟨hc, -, rfl⟩ | ⟨c, n, hc, hcand, -, rfl⟩ | ⟨hc, -, rfl⟩ |
    ⟨hc, -, rfl⟩ <;> simp only [State.SiteInv, hc] at hs
  · -- L_OPEN
    cases r with
    | ok => exact State.complete_inv (s := s.openLink) { hd with } hs.1 hok _
    | err => exact State.complete_inv hd hs.1 Result.wellFormed_unit _
  · -- L_CONF
    cases r with
    | ok =>
      exact State.complete_inv (s := { s with cfg := ⟨s.cur.framing, s.cur.driver, s.cur.addr, 0, true⟩ }) { hd with } hs.1 hok
        0x19
    | err => exact State.complete_inv hd hs.1 Result.wellFormed_unit _
  · -- L_DISC
    exact State.complete_inv hd hs.1 hok _
  · -- S_DISC
    exact State.inv_iff.2 ⟨{ hd with }, { hs with }⟩
  · -- S_WRITE
    exact State.writeDone_inv hd hs r
  · -- RA_DELAY
    obtain ⟨hrx, hlen, hk⟩ := hs
    exact State.inv_iff.2 ⟨{ hd with }, { hrx with }, hlen, Nat.le_add_left .., hk⟩
  · -- RA_AVAIL
    obtain ⟨hrx, hlen, -, hk⟩ := hs
    exact State.raAvailed_inv hd hrx hlen hk n
  · -- RB_READ
    exact State.rbGot_inv hd hs.1 hs.2 hlen
  · -- RC_DELAY
    obtain ⟨hrx, hlen, hk, -⟩ := hs
    exact State.inv_iff.2 ⟨{ hd with }, { hrx with }, hlen, Nat.le_add_left .., hk⟩
  · -- RC_AVAIL
    obtain ⟨hrx, hlen, -, hk⟩ := hs
    exact State.checkC_inv (s := s.setAvail n) { hd with } { hrx with } hlen hk
  · -- RD_READ
    exact State.rdGot_inv hd hs.1 hs.2 hlen
  · -- Q_OPEN
    exact State.sessionOpened_inv hd hs r
  · -- Q_CONF
    exact State.probeConfigured_inv hd hs c r
  · -- Q_SDISC
    exact State.inv_iff.2 ⟨{ hd with }, { hs.1 with }, hs.2⟩
  · -- Q_WRITE
    exact State.probeWritten_inv hd hs.1 r
  · -- Q_DELAY
    exact State.inv_iff.2 ⟨{ hd with }, { hs.1 with }, Nat.le_add_left .., hs.2⟩
  · -- Q_AVAIL
    exact State.probeAvailed_inv hd hs.1 hs.2.2 hcand n
  · -- Q_FDISC
    exact State.pollBegin_inv hd hs.1 hs.2
  · -- P_DELAY
    exact State.pollBegin_inv hd hs.1 hs.2

end

/-- Settles O52. -/
theorem resetMeetsInv : Obligations.ResetMeetsInv := fun _ hp => State.resetWith_inv hp

/-- Settles O51: the invariant reads neither the event list nor the transaction history, so each of the five things a step can do
is covered by the lemma about the operation it runs. -/
theorem everyStepKeepsInv : Obligations.EveryStepKeepsInv := by
  intro s t hs h
  rcases step_cases h with ⟨w, i, rest, -, -, he⟩ | ⟨w, e, rest, -, -, rfl⟩ | ⟨rest, -, rfl⟩ | ⟨rest, hc, -, rfl⟩ |
    ⟨a, x, rest, -, -, hr⟩
  · exact exec_inv (s := { s with inputs := rest }) hs he
  · exact State.offerReserved_inv (s := { s with inputs := rest }) hs w
  · exact State.resetWith_inv hs.1
  · obtain ⟨hd, hsite⟩ := State.inv_iff.1 hs
    simp only [State.SiteInv, hc] at hsite
    exact State.exhaust_inv (s := { s with inputs := rest }) { hd with } { hsite with }
  · exact resume_inv (s := State.issue { s with inputs := rest } x) hs hr

end Sys2Proof.Machine
end

section
/-! PROOF. The writers of the report stream, the transmit buffer and the measurement registers over all steps but reset (10_state R33,
R34, R45, R50): one relation says what a step may write to the three, and one lemma per operation that it does no more. -/

namespace Sys2Proof.Machine

/-- From `s` to `t` at most one record is reported, the transmit buffer is written at most with a whole built frame, and the
measurement registers at most with the record of a checked frame. -/
structure State.WritesTo (s t : State) : Prop where
  reports : t.reports = s.reports ∨ ∃ r, t.reports = s.reports ++ [r]
  enc : t.enc = s.enc ∨ ∃ a fc start n, t.enc = ⟨buildFrame a fc start n, true⟩
  record : t.dec.record = s.dec.record ∨ (t.rx.rxOk = true ∧ t.dec = ⟨decodeRecord t.rx.rxbuf, true⟩)

section
variable {s t : State}

/-- None of the three is written. -/
theorem State.WritesTo.nothing (hreports : t.reports = s.reports := by rfl) (henc : t.enc = s.enc := by rfl)
    (hrecord : t.dec.record = s.dec.record := by rfl) : s.WritesTo t := ⟨.inl hreports, .inl henc, .inl hrecord⟩

/-- A report and no more. -/
theorem State.WritesTo.report {r : Report} (hreports : t.reports = s.reports ++ [r] := by rfl) (henc : t.enc = s.enc := by rfl)
    (hrecord : t.dec.record = s.dec.record := by rfl) : s.WritesTo t := ⟨.inr ⟨r, hreports⟩, .inl henc, .inl hrecord⟩

/-- A decoded record and its report. -/
theorem State.WritesTo.decoded {r : Report} (hok : t.rx.rxOk = true) (hreports : t.reports = s.reports ++ [r] := by rfl)
    (henc : t.enc = s.enc := by rfl) (hdec : t.dec = ⟨decodeRecord t.rx.rxbuf, true⟩ := by rfl) : s.WritesTo t :=
  ⟨.inr ⟨r, hreports⟩, .inl henc, .inr ⟨hok, hdec⟩⟩

/-! ### The reception -/

/-- R188, R199, R244: the end of a reception reports once, and decodes only after OK. -/
theorem State.rxDone_writesTo {code : ResultCode} (hok : code = .ok → s.rx.rxOk = true) (a b : Byte) :
    s.WritesTo (s.rxDone code a b) := by
  unfold State.rxDone
  split
  · split
    · exact .report
    · split
      · unfold State.readAfterRx
        split
        · rename_i h
          exact .decoded (hok h.1)
        · exact .report
      · exact .nothing
  · unfold State.pollAfterRx
    split
    · exact .decoded (hok ‹_›)
    · exact .report

/-- A reception that fails decodes nothing. -/
theorem State.rxDone_failed_writesTo (s : State) (code : ResultCode) (a b : Byte) (hcode : code ≠ .ok := by decide) :
    s.WritesTo (s.rxDone code a b) := State.rxDone_writesTo (fun hok => absurd hok hcode) a b

theorem State.checkC_writesTo : s.WritesTo s.checkC := by
  unfold State.checkC
  split
  · exact .nothing
  · split
    · exact s.rxDone_failed_writesTo _ _ _
    · exact .nothing

theorem State.enterC_writesTo : s.WritesTo s.enterC := { State.checkC_writesTo (s := { s with k := 0 }) with }

theorem State.raAvailed_writesTo (n : Nat) : s.WritesTo (s.raAvailed n) := by
  unfold State.raAvailed
  dsimp only
  split
  · split
    · exact .nothing
    · exact { State.enterC_writesTo (s := s.setAvail n) with }
  · split
    · exact { (s.setAvail n).rxDone_failed_writesTo .noResponse 0 0 with }
    · exact .nothing

theorem State.rbGot_writesTo (r : List Byte) : s.WritesTo (s.rbGot r) := by
  unfold State.rbGot
  dsimp only
  split
  · exact s.rxDone_failed_writesTo _ _ _
  · split
    · exact .nothing
    · split
      · exact { (s.storeBytes r).rxDone_failed_writesTo .deviceException _ 0 with }
      · exact { State.enterC_writesTo (s := (s.storeBytes r).setAvail 0) with }

/-- R187: OK goes with rx_ok set. -/
theorem State.checkE_writesTo : s.WritesTo s.checkE := by
  unfold State.checkE
  dsimp only
  split
  · exact { State.rxDone_writesTo (s := { s with crc := s.frameCrc, rx := { s.rx with rxOk := true } }) (fun _ => rfl) 0 0 with }
  · exact { State.rxDone_failed_writesTo { s with crc := s.frameCrc } .checksumError 0 0 with }

theorem State.rdGot_writesTo (r : List Byte) : s.WritesTo (s.rdGot r) := by
  unfold State.rdGot
  dsimp only
  split
  · exact s.rxDone_failed_writesTo _ _ _
  · split
    · exact .nothing
    · exact { State.checkE_writesTo (s := s.storeBytes r) with }

/-! ### The request write and the search -/

theorem State.writeDone_writesTo (r : Status) : s.WritesTo (s.writeDone r) := by
  unfold State.writeDone
  split
  · split
    · exact .report
    · split
      · cases r with
        | ok => exact .nothing
        | err => exact .report
      · exact .nothing
  · cases r with
    | ok => exact .nothing
    | err => exact .report

theorem State.advance_writesTo : s.WritesTo s.advance := by
  unfold State.advance
  split <;> exact .nothing

theorem State.probeConfigured_writesTo (c : Candidate) (r : Status) : s.WritesTo (s.probeConfigured c r) := by
  cases r with
  | ok => exact ⟨.inl rfl, .inr ⟨_, _, _, _, rfl⟩, .inl rfl⟩
  | err => exact State.advance_writesTo

theorem State.probeAvailed_writesTo (c : Candidate) (n : Nat) : s.WritesTo (s.probeAvailed c n) := by
  unfold State.probeAvailed
  dsimp only
  split
  · exact .report
  · split
    · exact { State.advance_writesTo (s := s.setAvail n) with }
    · exact .nothing

theorem State.pollBegin_writesTo : s.WritesTo s.pollBegin := ⟨.inl rfl, .inr ⟨_, _, _, _, rfl⟩, .inl rfl⟩

/-! ### Presented words -/

/-- BUILD and READ write the transmit buffer, DECODE the measurement registers after its own test of rx_ok (R171, R190, R198). -/
theorem acceptance_writesTo (i : Instr) : s.WritesTo (acceptance i s) := by
  cases i <;> simp only [acceptance]
  case nop => exact .nothing
  case crcInit | crcByte => exact .report
  case build => exact ⟨.inr ⟨_, rfl⟩, .inr ⟨_, _, _, _, rfl⟩, .inl rfl⟩
  case send | receive | linkConfig | linkDiscard =>
    split
    · exact .report
    · exact .nothing
  case decode =>
    split
    · exact .report
    · rename_i hr
      exact .decoded (s.refusesDecode_false.1 (Bool.eq_false_iff.2 hr)).1
  case read =>
    split
    · exact .report
    · exact ⟨.inl rfl, .inr ⟨_, _, _, _, rfl⟩, .inl rfl⟩
  case linkOpen =>
    split
    · exact .report
    · exact .nothing
  case discStart => split <;> exact .nothing

theorem exec_writesTo {i : Instr} (h : exec i s = .next t) : s.WritesTo t := by
  rw [exec_eq, Host.Outcome.next.injEq] at h
  rw [← h]
  split
  · exact .nothing
  · split
    · exact { acceptance_writesTo (s := s.latch (encode i)) i with }
    · exact .report

theorem State.offerReserved_writesTo (w : CommandWord) : s.WritesTo (s.offerReserved w) := by
  unfold State.offerReserved State.offer
  split <;> exact .report

/-! ### Answers -/

theorem resume_writesTo {a : Answer} (h : s.resume a = .next t) : s.WritesTo t := by
  rcases resume_cases h with ⟨r, -, -, rfl⟩ | ⟨r, -, -, rfl⟩ | ⟨-, -, rfl⟩ | ⟨-, -, rfl⟩ | ⟨r, -, -, rfl⟩ | ⟨-, -, rfl⟩ |
    ⟨n, -, -, rfl⟩ | ⟨r, -, -, -, rfl⟩ | ⟨-, -, rfl⟩ | ⟨n, -, -, rfl⟩ | ⟨r, -, -, -, rfl⟩ | ⟨r, -, -, rfl⟩ |
    ⟨c, r, -, -, -, rfl⟩ | ⟨-, -, rfl⟩ | ⟨r, -, -, rfl⟩ | ⟨-, -, rfl⟩ | ⟨c, n, -, -, -, rfl⟩ | ⟨-, -, rfl⟩ | ⟨-, -, rfl⟩
  · -- L_OPEN
    cases r <;> exact .report
  · -- L_CONF
    cases r <;> exact .report
  · -- L_DISC
    exact .report
  · -- S_DISC
    exact .nothing
  · -- S_WRITE
    exact State.writeDone_writesTo r
  · -- RA_DELAY
    exact .nothing
  · -- RA_AVAIL
    exact State.raAvailed_writesTo n
  · -- RB_READ
    exact State.rbGot_writesTo r
  · -- RC_DELAY
    exact .nothing
  · -- RC_AVAIL
    exact { State.checkC_writesTo (s := s.setAvail n) with }
  · -- RD_READ
    exact State.rdGot_writesTo r
  · -- Q_OPEN
    cases r with
    | ok => exact .nothing
    | err => exact .report
  · -- Q_CONF
    exact State.probeConfigured_writesTo c r
  · -- Q_SDISC
    exact .nothing
  · -- Q_WRITE
    cases r with
    | ok => exact .nothing
    | err => exact State.advance_writesTo
  · -- Q_DELAY
    exact .nothing
  · -- Q_AVAIL
    exact State.probeAvailed_writesTo c n
  · -- Q_FDISC
    exact State.pollBegin_writesTo
  · -- P_DELAY
    exact State.pollBegin_writesTo

/-! ### Steps -/

/-- No step but reset writes more to the three than `WritesTo` allows. -/
theorem step_writesTo (h : step s = .next t) (hreset : ∀ rest, s.inputs ≠ .reset :: rest) : s.WritesTo t := by
  rcases step_cases h with ⟨w, i, rest, -, -, hx⟩ | ⟨w, e, rest, -, -, rfl⟩ | ⟨rest, hi, -⟩ | ⟨rest, -, -, rfl⟩ |
    ⟨a, x, rest, -, -, hx⟩
  · exact { exec_writesTo (s := { s with inputs := rest }) hx with }
  · exact { State.offerReserved_writesTo (s := { s with inputs := rest }) w with }
  · exact absurd hi (hreset rest)
  · exact .report
  · exact { resume_writesTo (s := State.issue { s with inputs := rest } x) hx with }

end

/-- Settles O42. -/
theorem reportsOnlyGrow : Obligations.ReportsOnlyGrow := fun _ _ h hreset => (step_writesTo h hreset).reports

/-- Settles O46. -/
theorem transmitBufferWriters : Obligations.TransmitBufferWriters := fun _ _ h hreset => (step_writesTo h hreset).enc

/-- Settles O47: a step that changes the record is one that decodes. -/
theorem measurementWriters : Obligations.MeasurementWriters := fun _ _ h hreset hchange =>
  (step_writesTo h hreset).record.resolve_left hchange

end Sys2Proof.Machine
end

section
/-! PROOF. The writers of link_open over all steps (10_state R47, 42_link R223). -/

namespace Sys2Proof.Machine

@[simp] theorem State.linkConfigured_linkOpen (s : State) (r : Status) : (s.linkConfigured r).linkOpen = s.linkOpen := by
  cases r <;> rfl
@[simp] theorem State.linkDiscarded_linkOpen (s : State) : s.linkDiscarded.linkOpen = s.linkOpen := rfl
@[simp] theorem State.writeDone_linkOpen (s : State) (r : Status) : (s.writeDone r).linkOpen = s.linkOpen := by
  unfold State.writeDone; (repeat' split) <;> simp
@[simp] theorem State.advance_linkOpen (s : State) : s.advance.linkOpen = s.linkOpen := by unfold State.advance; split <;> simp
@[simp] theorem State.probeConfigured_linkOpen (s : State) (c : Candidate) (r : Status) :
    (s.probeConfigured c r).linkOpen = s.linkOpen := by cases r <;> simp [State.probeConfigured]
@[simp] theorem State.probeWritten_linkOpen (s : State) (r : Status) : (s.probeWritten r).linkOpen = s.linkOpen := by
  cases r <;> simp [State.probeWritten]
@[simp] theorem State.probeAvailed_linkOpen (s : State) (c : Candidate) (n : Nat) :
    (s.probeAvailed c n).linkOpen = s.linkOpen := by
  unfold State.probeAvailed; dsimp only; (repeat' split) <;> simp

@[simp] theorem acceptance_linkOpen (i : Instr) (s : State) : (acceptance i s).linkOpen = s.linkOpen := by
  cases i
  case nop | crcInit | crcByte | build => simp [acceptance]
  case send | receive | decode | read | linkOpen | linkConfig | linkDiscard | discStart =>
    simp only [acceptance]
    split <;> simp

@[simp] theorem State.offerReserved_linkOpen (s : State) (w : CommandWord) : (s.offerReserved w).linkOpen = s.linkOpen := by
  unfold State.offerReserved State.offer; split <;> simp

@[simp] theorem State.resetEvent_linkOpen (s : State) : s.resetEvent.linkOpen = false := rfl

variable {s t : State}

theorem exec_keeps_linkOpen {i : Instr} (h : exec i s = .next t) : t.linkOpen = s.linkOpen := by
  rw [exec_eq, Host.Outcome.next.injEq] at h
  rw [← h]
  split
  · rfl
  · split <;> simp

/-- Of the transaction sites only the two that open the link touch the flag, and they only raise it (R212, R236). -/
theorem resume_linkOpen {a : Answer} (h : s.resume a = .next t) :
    t.linkOpen = s.linkOpen ∨ (t.linkOpen = true ∧ (s.ctl = .lOpen ∨ s.ctl = .qOpen) ∧ a = .status .ok) := by
  rcases resume_cases h with ⟨r, hc, rfl, rfl⟩ | ⟨r, -, -, rfl⟩ | ⟨-, -, rfl⟩ | ⟨-, -, rfl⟩ | ⟨r, -, -, rfl⟩ | ⟨-, -, rfl⟩ |
    ⟨n, -, -, rfl⟩ | ⟨r, -, -, -, rfl⟩ | ⟨-, -, rfl⟩ | ⟨n, -, -, rfl⟩ | ⟨r, -, -, -, rfl⟩ | ⟨r, hc, rfl, rfl⟩ |
    ⟨c, r, -, -, -, rfl⟩ | ⟨-, -, rfl⟩ | ⟨r, -, -, rfl⟩ | ⟨-, -, rfl⟩ | ⟨c, n, -, -, -, rfl⟩ | ⟨-, -, rfl⟩ | ⟨-, -, rfl⟩
  on_goal 12 => -- Q_OPEN
    cases r with
    | ok => exact .inr ⟨rfl, .inr hc, rfl⟩
    | err => exact .inl rfl
  on_goal 1 => -- L_OPEN
    cases r with
    | ok => exact .inr ⟨rfl, .inl hc, rfl⟩
    | err => exact .inl rfl
  all_goals exact .inl (by simp)

/-- Settles O44: presented words and the internal step leave the flag, an answer can only raise it, reset can only clear it. -/
theorem linkOpenFlagWriters : Obligations.LinkOpenFlagWriters := by
  intro s t h hchange
  rcases step_cases h with ⟨w, i, rest, -, -, hx⟩ | ⟨w, e, rest, -, -, rfl⟩ | ⟨rest, hi, rfl⟩ | ⟨rest, -, -, rfl⟩ |
    ⟨a, x, rest, hi, -, hx⟩
  · exact absurd (exec_keeps_linkOpen hx) hchange
  · exact absurd (by simp) hchange
  · exact .inr ⟨by simpa using hchange, rest, hi⟩
  · exact absurd (by simp) hchange
  · rcases resume_linkOpen hx with hkept | ⟨hopen, hc, rfl⟩
    · exact absurd hkept hchange
    · exact .inl ⟨by simpa [hopen] using hchange, hc, rest, hi⟩

end Sys2Proof.Machine
end

section
/-! PROOF. The reset table (10_state R60) and the readback port (10_state R52 to R55). -/

namespace Sys2Proof.Machine

/-- Settles O1: every line of R60's table is the value `State.resetWith` writes. -/
theorem resetHasTableValues : Obligations.ResetHasTableValues := by
  refine ⟨fun p => ?_, Params.vectorDefaults, rfl⟩
  intro s
  repeat' apply And.intro
  all_goals rfl

/-! ### Words -/

/-- A word put together from two fields, as a number. -/
theorem toNat_append_eq_add {m n : Nat} (hi : BitVec m) (lo : BitVec n) :
    (hi ++ lo).toNat = lo.toNat + hi.toNat * 2 ^ n := by
  rw [BitVec.toNat_append, ← Nat.shiftLeft_add_eq_or_of_lt lo.isLt, Nat.shiftLeft_eq, Nat.add_comm]

theorem Ctl.code_mem (c : Ctl) : (c, c.code.toNat) ∈ Claims.ctlCodes := by cases c <;> decide

theorem ResultCode.code_mem (c : ResultCode) : (c, c.code.toNat) ∈ Claims.resultCodes := by cases c <;> decide

theorem Mode.bit_eq (m : Mode) : m.bit = decide (m = .seq) := by cases m <;> rfl

/-! ### STATUS (R53) -/

theorem State.statusWord_ctl (s : State) : s.statusWord.extractLsb' 0 5 = s.ctl.code := BitVec.extractLsb'_append_eq_right

theorem State.statusWord_res (s : State) : s.statusWord.extractLsb' 6 4 = s.res.kind.code := by
  unfold State.statusWord
  rw [BitVec.extractLsb'_append_eq_of_le (by decide), BitVec.extractLsb'_append_eq_of_le (by decide)]
  exact BitVec.extractLsb'_append_eq_right

theorem State.statusWord_top (s : State) : s.statusWord.extractLsb' 15 17 = 0 := by
  unfold State.statusWord
  iterate 8 rw [BitVec.extractLsb'_append_eq_of_le (by decide)]
  exact BitVec.extractLsb'_eq_self

/-- The single bits of STATUS: MODE, LINK_OPEN, TX_VALID, RX_OK, M_VALID, CFG_VALID. -/
theorem State.statusWord_bits (s : State) :
    s.statusWord.getLsbD 5 = s.mode.bit ∧ s.statusWord.getLsbD 10 = s.linkOpen ∧ s.statusWord.getLsbD 11 = s.enc.txValid ∧
      s.statusWord.getLsbD 12 = s.rx.rxOk ∧ s.statusWord.getLsbD 13 = s.dec.mValid ∧ s.statusWord.getLsbD 14 = s.cfg.valid := by
  simp only [State.statusWord, BitVec.getLsbD_append, BitVec.getLsbD_ofBool]
  simp

/-! ### The words composed of fields (R52, R54) -/

theorem State.readback_result (s : State) : (s.readback 0x01).toNat = s.res.a.toNat + s.res.b.toNat * 2 ^ 8 := by
  have h : s.readback 0x01 = 0#16 ++ s.res.b ++ s.res.a := rfl
  simp only [h, toNat_append_eq_add, BitVec.toNat_ofNat]
  omega

theorem State.readback_crc (s : State) : (s.readback 0x02).toNat = s.crc.toNat := by
  have h : s.readback 0x02 = 0#16 ++ s.crc := rfl
  simp only [h, toNat_append_eq_add, BitVec.toNat_ofNat]
  omega

theorem State.readback_cfg (s : State) : (s.readback 0x03).toNat =
    s.cfg.f.toNat + s.cfg.d.toNat * 2 ^ 4 + s.cfg.a.toNat * 2 ^ 8 + s.cfg.idx.toNat * 2 ^ 16 := by
  have h : s.readback 0x03 = s.cfg.idx ++ s.cfg.a ++ 0#3 ++ BitVec.ofBool s.cfg.d ++ s.cfg.f := rfl
  simp only [h, toNat_append_eq_add, BitVec.toNat_ofBool, BitVec.toNat_ofNat]
  omega

/-- k is shown in 16 bits, capped; ci beside it. -/
theorem State.readback_counters (s : State) : (s.readback 0x04).toNat = s.ci.toNat + min s.k 0xFFFF * 2 ^ 16 := by
  have h : s.readback 0x04 = BitVec.ofNat 16 (min s.k 0xFFFF) ++ s.ci := rfl
  simp only [h, toNat_append_eq_add, BitVec.toNat_ofNat]
  omega

theorem State.readback_lengths (s : State) :
    (s.readback 0x05).toNat = s.rx.rxLen.toNat + s.rx.rxWant.toNat * 2 ^ 8 + s.rx.rxN.toNat * 2 ^ 16 := by
  have h : s.readback 0x05 = 0#8 ++ s.rx.rxN ++ s.rx.rxWant ++ s.rx.rxLen := rfl
  simp only [h, toNat_append_eq_add, BitVec.toNat_ofNat]
  omega

theorem State.readback_avail (s : State) : (s.readback 0x06).toNat = min s.avail 0xFFFFFFFF := by
  have h : s.readback 0x06 = BitVec.ofNat 32 (min s.avail 0xFFFFFFFF) := rfl
  simp only [h, BitVec.toNat_ofNat]
  omega

theorem State.readback_voltage (s : State) : (s.readback 0x07).toNat = s.dec.record.voltage.toNat := by
  have h : s.readback 0x07 = 0#16 ++ s.dec.record.voltage := rfl
  simp only [h, toNat_append_eq_add, BitVec.toNat_ofNat]
  omega

theorem State.readback_current (s : State) : (s.readback 0x08).toNat = s.dec.record.current.toNat := by
  have h : s.readback 0x08 = 0#16 ++ s.dec.record.current := rfl
  simp only [h, toNat_append_eq_add, BitVec.toNat_ofNat]
  omega

/-- The latched command word, in two halves. -/
theorem State.readback_cur (s : State) : (s.readback 0x0B).toNat + (s.readback 0x0C).toNat * 2 ^ 32 = s.cur.toNat := by
  have hlo : s.readback 0x0B = s.cur.extractLsb' 0 32 := rfl
  have hhi : s.readback 0x0C = s.cur.extractLsb' 32 32 := rfl
  simp only [hlo, hhi, BitVec.extractLsb'_toNat, Nat.shiftRight_eq_div_pow]
  omega

/-! ### The buffers (R55) -/

/-- From 0x0D on every index reads a buffer, or 0. -/
theorem State.readback_buffer (s : State) {n : Byte} (h : 0x0D ≤ n.toNat) : s.readback n = s.bufferWord n.toNat := by
  unfold State.readback
  split
  on_goal 14 => rfl
  all_goals omega

theorem State.bufferWord_tx (s : State) (i : Fin 8) : s.bufferWord (0x10 + i.val) = s.enc.txbuf[i].setWidth 32 := by
  simp [State.bufferWord]

/-- From 0x18 on an index is past the end of txbuf, and what is left is rxbuf from 0x20 on. -/
theorem State.bufferWord_past_tx (s : State) {n : Nat} (h : 0x18 ≤ n) :
    s.bufferWord n = if 0x20 ≤ n then (s.rx.rxbuf[n - 0x20]?).elim 0 (·.setWidth 32) else 0 := by
  have htx : s.enc.txbuf[n - 0x10]? = none := Vector.getElem?_eq_none (by omega)
  rw [State.bufferWord, if_pos (by omega), htx]
  cases s.rx.rxbuf[n - 0x20]? <;> rfl

theorem State.bufferWord_rx (s : State) (j : Fin 21) : s.bufferWord (0x20 + j.val) = s.rx.rxbuf[j].setWidth 32 := by
  rw [s.bufferWord_past_tx (by omega), if_pos (by omega)]
  simp

/-- R52: below, between and past the two buffers every index reads 0. -/
theorem State.bufferWord_gap (s : State) {n : Nat} (h : n < 0x10 ∨ (0x18 ≤ n ∧ n < 0x20) ∨ 0x35 ≤ n) : s.bufferWord n = 0 := by
  rcases h with h | ⟨hlo, hhi⟩ | h
  · exact if_neg (by omega)
  · rw [s.bufferWord_past_tx hlo, if_neg (by omega)]
  · rw [s.bufferWord_past_tx (by omega), if_pos (by omega), Vector.getElem?_eq_none (by omega), Option.elim_none]

/-- Settles O55. -/
theorem readbackWords : Obligations.ReadbackWords := by
  intro s
  obtain ⟨hmode, hlink, htx, hrx, hm, hcfg⟩ := s.statusWord_bits
  refine ⟨⟨?_, hmode.trans s.mode.bit_eq, ?_, hlink, htx, hrx, hm, hcfg, s.statusWord_top⟩, s.readback_result, s.readback_crc,
    s.readback_cfg, s.readback_counters, s.readback_lengths, s.readback_avail, s.readback_voltage, s.readback_current, rfl, rfl,
    s.readback_cur, fun i => ?_, fun j => ?_, fun n hn => ?_⟩
  · exact s.statusWord_ctl ▸ s.ctl.code_mem
  · exact s.statusWord_res ▸ s.res.kind.code_mem
  · have hi : (BitVec.ofNat 8 (0x10 + i.val)).toNat = 0x10 + i.val := by simp; omega
    rw [s.readback_buffer (by omega), hi, s.bufferWord_tx]
  · have hj : (BitVec.ofNat 8 (0x20 + j.val)).toNat = 0x20 + j.val := by simp; omega
    rw [s.readback_buffer (by omega), hj, s.bufferWord_rx]
  · rw [s.readback_buffer (by omega), s.bufferWord_gap (by omega)]

end Sys2Proof.Machine
end

section
/-! SUPPORT. The input side of the host contract: what serving a transaction can do, said once, and what that means for the line
settings and for the bytes that reads return (20_memory R75, R81, R90, R94). -/

namespace Sys2Proof.Machine

variable {t u : Transport} {x : Transaction} {a : Answer} {e : HostEvent} {es : List HostEvent}

/-- Every way a host that keeps its duties can serve a transaction: one line per transaction and answer. -/
theorem Transport.serves_cases (h : t.Serves x a u) :
    (∃ id, x = .openLink id ∧ a = .status .ok ∧ u = { t with isOpen := true }) ∨
    (∃ id, x = .openLink id ∧ a = .status .err ∧ u = t) ∨
    (∃ f d b, x = .configure f d b ∧ a = .status .ok ∧ u = ⟨true, some (f, d, b), t.written, [], []⟩) ∨
    (∃ f d b, x = .configure f d b ∧ a = .status .err ∧ u.written = t.written ∧ u.output.Sublist t.output ∧
      u.input.Sublist t.input) ∨
    (∃ bs, x = .write bs ∧ a = .status .ok ∧
      u = { t with written := t.written ++ bs.toList, output := t.output ++ bs.toList }) ∨
    (∃ bs sent, x = .write bs ∧ a = .status .err ∧ u.applied = t.applied ∧ u.input = t.input ∧ sent.Sublist bs.toList ∧
      u.written = t.written ++ sent ∧ u.output.Sublist (t.output ++ sent)) ∨
    (∃ n, x = .bytesAvailable ∧ a = .count n ∧ u = t) ∨
    (∃ m r left, x = .read m ∧ a = .bytes r ∧ r.length ≤ m ∧ t.input = r ++ left ∧ u = { t with input := left }) ∨
    (x = .discardBuffers ∧ a = .done ∧ u = { t with output := [], input := [] }) ∨
    (∃ d, x = .delay d ∧ a = .done ∧ u = t) := by
  cases x <;> cases a
  case openLink.status id r =>
    cases r
    · exact .inl ⟨id, rfl, rfl, h⟩
    · exact .inr <| .inl ⟨id, rfl, rfl, h⟩
  case configure.status f d b r =>
    cases r
    · exact .inr <| .inr <| .inl ⟨f, d, b, rfl, rfl, h⟩
    · exact .inr <| .inr <| .inr <| .inl ⟨f, d, b, rfl, rfl, h⟩
  case write.status bs r =>
    cases r
    · exact .inr <| .inr <| .inr <| .inr <| .inl ⟨bs, rfl, rfl, h⟩
    · obtain ⟨happ, hin, sent, hsent⟩ := h
      exact .inr <| .inr <| .inr <| .inr <| .inr <| .inl ⟨bs, sent, rfl, rfl, happ, hin, hsent⟩
  case bytesAvailable.count n => simp [show u = t from h]
  case read.bytes m r =>
    obtain ⟨hlen, hin, hu⟩ := h
    simp [hlen, hin, ← hu]
  case discardBuffers.done => simp [show u = { t with output := [], input := [] } from h]
  case delay.done d => simp [show u = t from h]
  all_goals exact h.elim

/-! ### The line settings (R81) -/

/-- No transaction but a Configure applies line settings. -/
theorem Transport.serves_applied (h : t.Serves x a u) :
    u.applied = t.applied ∨ ∃ f d b r, x = .configure f d b ∧ a = .status r := by
  rcases Transport.serves_cases h with ⟨_, -, -, rfl⟩ | ⟨_, -, -, rfl⟩ | ⟨f, d, b, hx, ha, -⟩ | ⟨f, d, b, hx, ha, -⟩ |
    ⟨_, -, -, rfl⟩ | ⟨_, _, -, -, happ, -⟩ | ⟨_, -, -, rfl⟩ | ⟨_, _, _, -, -, -, -, rfl⟩ | ⟨-, -, rfl⟩ | ⟨_, -, -, rfl⟩
  · exact .inl rfl
  · exact .inl rfl
  · exact .inr ⟨f, d, b, .ok, hx, ha⟩
  · exact .inr ⟨f, d, b, .err, hx, ha⟩
  · exact .inl rfl
  · exact .inl happ
  all_goals exact .inl rfl

/-! ### The input buffer (R75, R94) -/

/-- A discard and an Ok configure leave nothing to read. -/
theorem Transport.serves_empties_input (hx : (x = .discardBuffers ∧ a = .done) ∨ (x.isConfigure = true ∧ a = .status .ok))
    (h : t.Serves x a u) : u.input = [] := by
  rcases hx with ⟨rfl, rfl⟩ | ⟨hx, rfl⟩
  · exact congrArg Transport.input (show u = _ from h)
  · cases x <;> simp only [Transaction.isConfigure, Bool.false_eq_true] at hx
    exact congrArg Transport.input (show u = _ from h)

/-- What a transaction reads and what it leaves to read was in the input buffer, in that order. -/
theorem Transport.serves_input (h : t.Serves x a u) : (bytesRead [.serve x a] ++ u.input).Sublist t.input := by
  rcases Transport.serves_cases h with ⟨_, rfl, rfl, rfl⟩ | ⟨_, rfl, rfl, rfl⟩ | ⟨_, _, _, rfl, rfl, rfl⟩ |
    ⟨_, _, _, rfl, rfl, -, -, hin⟩ | ⟨_, rfl, rfl, rfl⟩ | ⟨_, _, rfl, rfl, -, hin, -⟩ | ⟨_, rfl, rfl, rfl⟩ |
    ⟨_, r, left, rfl, rfl, -, hin, rfl⟩ | ⟨rfl, rfl, rfl⟩ | ⟨_, rfl, rfl, rfl⟩
  · exact .refl _
  · exact .refl _
  · exact List.nil_sublist _
  · exact hin
  · exact .refl _
  · exact hin ▸ .refl _
  · exact .refl _
  · simp [bytesRead, hin]
  · exact List.nil_sublist _
  · exact .refl _

/-- One event: what it reads and what it leaves to read was in the input buffer or arrived in it, in that order. -/
theorem Transport.does_input (h : t.Does e u) : (bytesRead [e] ++ u.input).Sublist (t.input ++ arrivals [e]) := by
  cases e with
  | arrive bs => simp [show u = { t with input := t.input ++ bs } from h, bytesRead, arrivals]
  | transmit n => simp [h.2, bytesRead, arrivals]
  | serve x a => simpa [arrivals] using Transport.serves_input h

theorem arrivals_cons (e : HostEvent) (es : List HostEvent) : arrivals (e :: es) = arrivals [e] ++ arrivals es := by
  cases e <;> simp [arrivals]

theorem bytesRead_cons (e : HostEvent) (es : List HostEvent) : bytesRead (e :: es) = bytesRead [e] ++ bytesRead es := by
  cases e with
  | arrive bs => rfl
  | transmit n => rfl
  | serve x a => cases x <;> cases a <;> simp [bytesRead]

/-- R75, R94: over a run, what is read and what is left to read was in the input buffer or arrived in it, in that order. -/
theorem Transport.runs_input (h : t.Runs es u) : (bytesRead es ++ u.input).Sublist (t.input ++ arrivals es) := by
  induction es generalizing t with
  | nil => simp [show u = t from h, bytesRead]
  | cons e es ih =>
    obtain ⟨v, hv, hu⟩ := h
    rw [bytesRead_cons, arrivals_cons, List.append_assoc, ← List.append_assoc t.input]
    have hrest : (bytesRead [e] ++ (bytesRead es ++ u.input)).Sublist (bytesRead [e] ++ v.input ++ arrivals es) := by
      simpa using ih hu
    exact hrest.trans ((Transport.does_input hv).append_right _)

end Sys2Proof.Machine
end

section
/-! SUPPORT. Steps without a next state: what the engine does where it waits, and a read answered with too much (20_memory R91). -/

namespace Sys2Proof.Machine

variable {s : State}

/-- Everywhere but at Q_EXH, IDLE and FATAL the engine's own move is to wait for the host. -/
theorem State.goOn_site (hidle : s.ctl ≠ .idle) (hfatal : s.ctl ≠ .fatal) (hexh : s.ctl ≠ .qExh) :
    s.goOn = .fault .awaitingAnswer := by simp only [State.goOn]

/-- Where no transaction is outstanding, an answer is a breach. -/
theorem State.takeAnswer_unsolicited (h : s.ctl = .idle ∨ s.ctl = .fatal) (a : Answer) :
    s.takeAnswer a = .fault .unsolicitedAnswer := by
  rcases h with h | h <;> simp [State.takeAnswer, State.request, h]

/-- Only two sites issue a read: the exception test's and the completion's (R184, R186). -/
theorem State.request_read {m : Nat} (h : s.request = some (.read m)) :
    (s.ctl = .rbRead ∧ m = s.excMissing) ∨ (s.ctl = .rdRead ∧ m = s.missing) := by
  cases hc : s.ctl <;> simp [State.request, hc] at h
  case rbRead => exact .inl ⟨rfl, h.symm⟩
  case rdRead => exact .inr ⟨rfl, h.symm⟩

theorem onBytes_overlong {r : List Byte} {m : Nat} (h : m < r.length) (f : List Byte → State) :
    onBytes (.bytes r) m f = .fault .overlongRead := if_neg (Nat.not_le.2 h)

end Sys2Proof.Machine
end

section
/-! PROOF. The rules of 20_memory. -/

namespace Sys2Proof.Machine

/-- Settles O56: after the discard or the configure the input buffer is empty, so what the run reads can only have arrived in it. -/
theorem noStaleBytesAfterDiscard : Obligations.NoStaleBytesAfterDiscard := by
  intro t u v x a es hx hserves hruns
  have hall := Transport.runs_input hruns
  rw [Transport.serves_empties_input hx hserves, List.nil_append] at hall
  exact (List.sublist_append_left _ _).trans hall

/-- Settles O54. -/
theorem hostBreachesHaveNoMove : Obligations.HostBreachesHaveNoMove := by
  refine ⟨fun s hidle hfatal hexh hi => ?silent, fun s r rest m hr hi hlong => ?overlong, fun s a rest hc hi => ?unasked⟩
  case silent => rw [step_goOn hi, State.goOn_site hidle hfatal hexh]
  case overlong =>
    rw [step_site hi hr]
    rcases State.request_read hr with ⟨hc, rfl⟩ | ⟨hc, rfl⟩
    · exact (State.resume_rbRead (s := State.issue { s with inputs := rest } _) hc _).trans (onBytes_overlong hlong _)
    · exact (State.resume_rdRead (s := State.issue { s with inputs := rest } _) hc _).trans (onBytes_overlong hlong _)
  case unasked =>
    have hexh : s.ctl ≠ .qExh := by rcases hc with hc | hc <;> simp [hc]
    rw [step_answer hi hexh]
    exact State.takeAnswer_unsolicited (s := { s with inputs := rest }) hc a

/-- Settles O59. -/
theorem onlyConfigureAppliesSettings : Obligations.OnlyConfigureAppliesSettings := by
  refine ⟨fun t u e hdoes hne => ?changed, fun t u f d a hserves => ?reopened⟩
  case changed =>
    cases e with
    | arrive bs => exact absurd (congrArg Transport.applied (show u = _ from hdoes)) hne
    | transmit n => exact absurd (congrArg Transport.applied hdoes.2) hne
    | serve x a =>
      obtain ⟨f, d, b, r, rfl, rfl⟩ := (Transport.serves_applied hdoes).resolve_left hne
      exact ⟨f, d, b, r, rfl⟩
  case reopened =>
    obtain rfl : u = ⟨true, some (f, d, a), t.written, [], []⟩ := hserves
    exact ⟨rfl, rfl, rfl, rfl, rfl⟩

end Sys2Proof.Machine
end

section
/-! SUPPORT. The decoder and the encoder on each other's results (30_encoding R112 to R116): a word cut at OP, and a command's operands
read back from the bits below OP. -/

namespace Sys2Proof

/-- A word is its OP and the 56 bits below it (R112). -/
theorem CommandWord.op_append_operands (w : CommandWord) : w.op ++ w.extractLsb' 0 56 = w :=
  (BitVec.extractLsb'_append_extractLsb'_eq_extractLsb' (start₁ := 0) (len₁ := 56) rfl).trans BitVec.extractLsb'_eq_self

theorem encode_eq {i : Instr} {w : CommandWord} (hop : i.op = w.op) (hbits : i.operandBits = w.extractLsb' 0 56) :
    encode i = w := by
  rw [encode, hop, hbits, w.op_append_operands]

/-- What the decoder extracts below OP comes from the operand bits alone. -/
theorem encode_extractLsb' (i : Instr) {start len : Nat} (h : start + len ≤ 56) :
    (encode i).extractLsb' start len = i.operandBits.extractLsb' start len := BitVec.extractLsb'_append_eq_of_add_le h

theorem encode_operands (i : Instr) : (encode i).extractLsb' 0 56 = i.operandBits := by
  rw [encode_extractLsb' i (by decide), BitVec.extractLsb'_eq_self]

/-- The line-driver enable as a field of one bit (R116). -/
theorem CommandWord.ofBool_driver (w : CommandWord) : BitVec.ofBool w.driver = w.extractLsb' 4 1 := by
  apply BitVec.eq_of_getLsbD_eq
  intro j hj
  obtain rfl : j = 0 := by omega
  simp [CommandWord.driver]

/-- The decoder finds every operand and every ignored bit where the encoder put it. -/
theorem decode_encode (i : Instr) : decode (encode i) = .ok i := by
  cases i with
  | nop ign | crcInit ign | send ign | decode ign | linkOpen ign | linkDiscard ign | discStart ign =>
    simp [decode, Instr.op, encode_operands, Instr.operandBits]
  | crcByte | build | receive | read =>
    rw [decode, encode_op]
    refine congrArg Except.ok ?_
    simp (disch := decide) only [CommandWord.addr, CommandWord.fc, CommandWord.start, CommandWord.count, CommandWord.data,
      encode_extractLsb', Instr.operandBits, BitVec.extractLsb'_append_eq_of_le, BitVec.extractLsb'_append_eq_of_add_le,
      Nat.reduceSub, BitVec.extractLsb'_eq_self]
  | linkConfig addr ignMid ignTop driver framing =>
    obtain ⟨-, -, hdriver, -⟩ := Laws.OperandsAtFields.linkConfig addr ignMid ignTop driver framing
    rw [decode, encode_op]
    refine congrArg Except.ok ?_
    simp (disch := decide) only [CommandWord.addr, CommandWord.framing, hdriver, encode_extractLsb', Instr.operandBits,
      BitVec.extractLsb'_append_eq_of_le, BitVec.extractLsb'_append_eq_of_add_le, Nat.reduceSub, BitVec.extractLsb'_eq_self]

/-- A decoded word lost no bit: its fields, side by side, are the word. -/
theorem encode_of_decode {w : CommandWord} {i : Instr} (h : decode w = .ok i) : encode i = w := by
  unfold decode at h
  split at h <;> cases h
  all_goals
    rename_i hop
    refine encode_eq (BitVec.eq_of_toNat_eq hop.symm) ?_
    simp (disch := decide) only [Instr.operandBits, CommandWord.addr, CommandWord.fc, CommandWord.start, CommandWord.count,
      CommandWord.data, CommandWord.ofBool_driver, CommandWord.framing, BitVec.extractLsb'_append_extractLsb'_eq_extractLsb']

theorem decode_op {w : CommandWord} {i : Instr} (h : decode w = .ok i) : i.op = w.op := by
  rw [← encode_of_decode h, encode_op]

theorem Instr.op_assigned (i : Instr) : i.op ∈ Claims.assignedOps := by cases i <;> simp [Instr.op, Claims.assignedOps]

/-- A word decodes exactly when its OP is one of the twelve of R114. -/
theorem decodes_iff (w : CommandWord) : (∃ i, decode w = .ok i) ↔ w.op ∈ Claims.assignedOps := by
  constructor
  · rintro ⟨i, h⟩
    exact decode_op h ▸ i.op_assigned
  · intro h
    simp only [Claims.assignedOps, List.mem_cons, List.not_mem_nil, or_false] at h
    rcases h with h | h | h | h | h | h | h | h | h | h | h | h <;>
      exact ⟨_, by rw [decode, h]; rfl⟩

theorem decode_reserved {w : CommandWord} (h : w.op ∉ Claims.assignedOps) : ∃ e, decode w = .error e := by
  cases hd : decode w with
  | ok i => exact absurd ((decodes_iff w).1 ⟨i, hd⟩) h
  | error e => exact ⟨e, rfl⟩

/-- A word that does not decode has none of the assigned OPs, so it is no NOP. -/
theorem op_ne_zero_of_decode_error {w : CommandWord} {e : DecodeError} (h : decode w = .error e) : w.op ≠ 0x00 := by
  intro hop
  obtain ⟨i, hi⟩ := (decodes_iff w).2 (hop ▸ by decide)
  simp [hi] at h

end Sys2Proof
end

section
/-! PROOF. Decoding and encoding as inverses (30_encoding R112 to R116), and what presenting a word does by its OP
(R110, R111, R115). -/

namespace Sys2Proof.Machine

/-- Settles O8: each direction by the twelve commands, from where the fields stand in the word. -/
theorem decodeEncodeAgree : Obligations.DecodeEncodeAgree :=
  ⟨decode_encode, fun _ _ => encode_of_decode, decodes_iff⟩

/-- Settles O6: each field as a quotient and a remainder of the word. -/
theorem wordIsSumOfFields : Obligations.WordIsSumOfFields := by
  intro w
  simp only [CommandWord.op, CommandWord.addr, CommandWord.fc, CommandWord.start, CommandWord.count, CommandWord.data,
    BitVec.extractLsb'_toNat, Nat.shiftRight_eq_div_pow]
  have := w.isLt
  omega

/-- Settles O7: the nine words, decoded. -/
theorem specWordsDecode : Obligations.SpecWordsDecode := by
  unfold Obligations.SpecWordsDecode
  decide

theorem State.present_ok {w : CommandWord} {i : Instr} (h : decode w = .ok i) (s : State) : s.present w = exec i s := by
  simp only [State.present, h]

theorem State.present_error {w : CommandWord} {e : DecodeError} (h : decode w = .error e) (s : State) :
    s.present w = .next (s.offerReserved w) := by
  simp only [State.present, h]

/-- Settles O3: the step hands the presented word to `State.present`, which runs what it decodes to. -/
theorem stepRunsDecodedInstruction : Obligations.StepRunsDecodedInstruction :=
  ⟨fun _ _ _ _ hi hd => (step_present hi).trans (State.present_ok hd _), fun _ _ _ hi => step_present hi⟩

/-- Settles O4: no reserved word decodes, so at IDLE it is latched and refused; the reserved values are counted. -/
theorem reservedOpIsRefused : Obligations.ReservedOpIsRefused := by
  refine ⟨fun s w hop hidle => ?_, by decide +kernel⟩
  obtain ⟨e, he⟩ := decode_reserved hop
  rw [State.present_error he, State.offerReserved, State.offer_idle hidle]
  rfl

/-- Settles O5: busy, a command of any OP but NOP's is refused, and so is a word that is no command. -/
theorem busyWordIsRefused : Obligations.BusyWordIsRefused := by
  intro s w hbusy
  cases hd : decode w with
  | ok i =>
    rw [State.present_ok hd, exec_eq, decode_op hd, if_neg hbusy]
    rfl
  | error e =>
    rw [State.present_error hd, State.offerReserved, State.offer_busy hbusy, if_neg (op_ne_zero_of_decode_error hd)]
    rfl

end Sys2Proof.Machine
end

section
/-! SUPPORT. Another word in cur (10_state R42): the sites read of the latched word only its OP, READ's COUNT and LINK_CONFIG's
operands (42_link R214, R221), so a word that agrees in these can stand in its place through every step. -/

namespace Sys2Proof.Machine

/-- `s` with another word in cur. -/
@[simps] def State.withCur (s : State) (w : CommandWord) : State := { s with cur := w }

theorem State.ite_withCur (c : Prop) [Decidable c] (t u : State) (w : CommandWord) :
    (if c then t else u).withCur w = if c then t.withCur w else u.withCur w := apply_ite (State.withCur · w) c t u

/-- An outcome with another word in the next state's cur. -/
def outcomeWithCur (w : CommandWord) : Host.Outcome State Fault Refusal → Host.Outcome State Fault Refusal
  | .next t => .next (t.withCur w)
  | .fault f => .fault f
  | .refused f => .refused f

/-- Two words no site can tell apart. -/
structure SameUse (v w : CommandWord) : Prop where
  op : w.op = v.op
  count : v.op = 0x14 → w.count = v.count
  config : v.op = 0x19 → w.framing = v.framing ∧ w.driver = v.driver ∧ w.addr = v.addr

theorem SameUse.refl (v : CommandWord) : SameUse v v := ⟨rfl, fun _ => rfl, fun _ => ⟨rfl, rfl, rfl⟩⟩

theorem SameUse.symm {v w : CommandWord} (h : SameUse v w) : SameUse w v :=
  ⟨h.op.symm, fun hop => (h.count (h.op ▸ hop)).symm, fun hop =>
    have ⟨hf, hd, ha⟩ := h.config (h.op ▸ hop)
    ⟨hf.symm, hd.symm, ha.symm⟩⟩

theorem SameUse.trans {u v w : CommandWord} (h : SameUse u v) (h' : SameUse v w) : SameUse u w :=
  ⟨h'.op.trans h.op, fun hop => (h'.count (h.op ▸ hop)).trans (h.count hop), fun hop =>
    have ⟨hf, hd, ha⟩ := h.config hop
    have ⟨hf', hd', ha'⟩ := h'.config (h.op ▸ hop)
    ⟨hf'.trans hf, hd'.trans hd, ha'.trans ha⟩⟩

/-- Clearing the ignored bits leaves what the sites read. -/
theorem sameUse_usedOnly (i : Instr) : SameUse (encode i) (encode (Claims.usedOnly i)) := by
  cases i
  case read addr ignFc start count ignData =>
    obtain ⟨-, -, -, hcount⟩ := Laws.OperandsAtFields.read addr ignFc start count ignData
    obtain ⟨-, -, -, hcount'⟩ := Laws.OperandsAtFields.read addr 0 start count 0
    exact ⟨by simp [Claims.usedOnly, Instr.op], fun _ => hcount'.trans hcount.symm, by simp [Instr.op]⟩
  case linkConfig addr ignMid ignTop driver framing =>
    obtain ⟨-, ha, hd, hf⟩ := Laws.OperandsAtFields.linkConfig addr ignMid ignTop driver framing
    obtain ⟨-, ha', hd', hf'⟩ := Laws.OperandsAtFields.linkConfig addr 0 0 driver framing
    exact ⟨by simp [Claims.usedOnly, Instr.op], by simp [Instr.op],
      fun _ => ⟨hf'.trans hf.symm, hd'.trans hd.symm, ha'.trans ha.symm⟩⟩
  all_goals constructor <;> simp [Claims.usedOnly, Instr.op]

theorem sameUse_of_usedOnly {i j : Instr} (h : Claims.usedOnly i = Claims.usedOnly j) : SameUse (encode i) (encode j) :=
  (sameUse_usedOnly i).trans (h ▸ (sameUse_usedOnly j).symm)

/-! ### Going on with an answer -/

section
variable {a : Answer} {w : CommandWord}

theorem onStatus_withCur {f g : Status → State} (h : ∀ r, g r = (f r).withCur w) :
    onStatus a g = outcomeWithCur w (onStatus a f) := by
  cases a <;> simp [onStatus, outcomeWithCur, h]

theorem onCount_withCur {f g : Nat → State} (h : ∀ n, g n = (f n).withCur w) :
    onCount a g = outcomeWithCur w (onCount a f) := by
  cases a <;> simp [onCount, outcomeWithCur, h]

theorem onBytes_withCur {m : Nat} {f g : List Byte → State} (h : ∀ r, g r = (f r).withCur w) :
    onBytes a m g = outcomeWithCur w (onBytes a m f) := by
  cases a
  case bytes r =>
    simp only [onBytes, h]
    split <;> rfl
  all_goals rfl

theorem onDone_withCur {t u : State} (h : u = t.withCur w) : onDone a u = outcomeWithCur w (onDone a t) := by
  cases a <;> simp [onDone, outcomeWithCur, h]

theorem withCandidate_withCur {s : State} {f g : Candidate → Host.Outcome State Fault Refusal}
    (h : ∀ c, g c = outcomeWithCur w (f c)) : withCandidate (s.withCur w) g = outcomeWithCur w (withCandidate s f) := by
  have hs : (s.withCur w).candidate = s.candidate := rfl
  unfold withCandidate
  rw [hs]
  cases s.candidate with
  | none => rfl
  | some c => exact h c

end

/-! ### The sites that do not read cur -/

section
variable (s : State) (w : CommandWord)

theorem State.linkOpened_withCur (r : Status) : (s.withCur w).linkOpened r = (s.linkOpened r).withCur w := by cases r <;> rfl

theorem State.sessionOpened_withCur (r : Status) : (s.withCur w).sessionOpened r = (s.sessionOpened r).withCur w := by
  cases r <;> rfl

theorem State.advance_withCur : (s.withCur w).advance = s.advance.withCur w := by
  simp only [State.advance, State.ite_withCur]
  rfl

theorem State.probeConfigured_withCur (c : Candidate) (r : Status) :
    (s.withCur w).probeConfigured c r = (s.probeConfigured c r).withCur w := by
  cases r with
  | ok => rfl
  | err => exact s.advance_withCur w

theorem State.probeWritten_withCur (r : Status) : (s.withCur w).probeWritten r = (s.probeWritten r).withCur w := by
  cases r with
  | ok => rfl
  | err => exact s.advance_withCur w

theorem State.probeAvailed_withCur (c : Candidate) (n : Nat) :
    (s.withCur w).probeAvailed c n = (s.probeAvailed c n).withCur w := by
  simp only [State.probeAvailed, State.ite_withCur, ← State.advance_withCur]
  rfl

theorem State.pollAfterRx_withCur (code : ResultCode) (a b : Byte) :
    (s.withCur w).pollAfterRx code a b = (s.pollAfterRx code a b).withCur w := by
  simp only [State.pollAfterRx, State.ite_withCur]
  rfl

theorem State.readAfterRx_withCur (code : ResultCode) (a b : Byte) :
    (s.withCur w).readAfterRx code a b = (s.readAfterRx code a b).withCur w := by
  simp only [State.readAfterRx, State.withCur_rx]
  split <;> rfl

end

/-! ### The sites that read cur's OP -/

section
variable {s : State} {w : CommandWord}

theorem State.rxDone_withCur (hop : w.op = s.cur.op) (code : ResultCode) (a b : Byte) :
    (s.withCur w).rxDone code a b = (s.rxDone code a b).withCur w := by
  simp only [State.rxDone, State.withCur_mode, State.withCur_cur, hop]
  split
  · split
    · rfl
    · split
      · exact s.readAfterRx_withCur w code a b
      · rfl
  · exact s.pollAfterRx_withCur w code a b

theorem State.checkC_withCur (hop : w.op = s.cur.op) : (s.withCur w).checkC = s.checkC.withCur w := by
  simp only [State.checkC, State.withCur_rx, State.withCur_avail, State.withCur_k, State.withCur_params, State.rxDone_withCur hop]
  split
  · rfl
  · split <;> rfl

theorem State.enterC_withCur (hop : w.op = s.cur.op) : (s.withCur w).enterC = s.enterC.withCur w :=
  State.checkC_withCur (s := { s with k := 0 }) hop

theorem State.raAvailed_withCur (hop : w.op = s.cur.op) (n : Nat) : (s.withCur w).raAvailed n = (s.raAvailed n).withCur w := by
  have hs : (s.withCur w).setAvail n = (s.setAvail n).withCur w := rfl
  have hop' : w.op = (s.setAvail n).cur.op := hop
  simp only [State.raAvailed, hs, State.enterC_withCur hop', State.rxDone_withCur hop', State.withCur_k, State.withCur_params]
  (repeat' split) <;> rfl

theorem State.rbGot_withCur (hop : w.op = s.cur.op) (r : List Byte) : (s.withCur w).rbGot r = (s.rbGot r).withCur w := by
  have hs : (s.withCur w).storeBytes r = (s.storeBytes r).withCur w := rfl
  have hs' : ((s.storeBytes r).withCur w).setAvail 0 = ((s.storeBytes r).setAvail 0).withCur w := rfl
  have hop' : w.op = (s.storeBytes r).cur.op := hop
  have hop'' : w.op = ((s.storeBytes r).setAvail 0).cur.op := hop
  have hbit : ((s.storeBytes r).withCur w).exceptionBit = (s.storeBytes r).exceptionBit := rfl
  simp only [State.rbGot, hs, hs', hbit, State.enterC_withCur hop'', State.rxDone_withCur hop, State.rxDone_withCur hop',
    State.withCur_rx]
  (repeat' split) <;> rfl

theorem State.checkE_withCur (hop : w.op = s.cur.op) : (s.withCur w).checkE = s.checkE.withCur w := by
  have hok : (s.withCur w).trailerOk = s.trailerOk := rfl
  simp only [State.checkE, hok]
  split
  · exact State.rxDone_withCur (s := { s with crc := s.frameCrc, rx := { s.rx with rxOk := true } }) hop .ok 0 0
  · exact State.rxDone_withCur (s := { s with crc := s.frameCrc }) hop .checksumError 0 0

theorem State.rdGot_withCur (hop : w.op = s.cur.op) (r : List Byte) : (s.withCur w).rdGot r = (s.rdGot r).withCur w := by
  have hs : (s.withCur w).storeBytes r = (s.storeBytes r).withCur w := rfl
  have hop' : w.op = (s.storeBytes r).cur.op := hop
  simp only [State.rdGot, hs, State.checkE_withCur hop', State.rxDone_withCur hop, State.withCur_rx]
  (repeat' split) <;> rfl

/-- The latched command's refusal names its OP (R19). -/
theorem State.refuse_withCur (hop : w.op = s.cur.op) : (s.withCur w).refuse = s.refuse.withCur w := by
  simp only [State.refuse, State.withCur_cur, hop]
  rfl

/-! ### The sites that read its operands -/

theorem State.writeDone_withCur (h : SameUse s.cur w) (r : Status) : (s.withCur w).writeDone r = (s.writeDone r).withCur w := by
  simp only [State.writeDone, State.withCur_mode, State.withCur_cur, h.op]
  split
  · split
    · rfl
    · split
      · rw [h.count ‹_›]
        split <;> rfl
      · rfl
  · split
    · rfl
    · exact s.pollAfterRx_withCur w .transportFailure 0 0

theorem State.linkConfigured_withCur (h : SameUse s.cur w) (hop : s.cur.op = 0x19) (r : Status) :
    (s.withCur w).linkConfigured r = (s.linkConfigured r).withCur w := by
  obtain ⟨hf, hd, ha⟩ := h.config hop
  cases r with
  | ok =>
    simp only [State.linkConfigured, State.withCur_cur, hf, hd, ha]
    rfl
  | err => rfl

/-! ### Steps -/

theorem State.request_withCur (h : SameUse s.cur w) (hconf : s.ctl = .lConf → s.cur.op = 0x19) :
    (s.withCur w).request = s.request := by
  cases hc : s.ctl
  case lConf =>
    obtain ⟨hf, hd, ha⟩ := h.config (hconf hc)
    simp only [State.request, State.withCur_ctl, hc, State.withCur_cur, State.withCur_params, hf, hd, ha]
  all_goals simp only [State.request, State.withCur_ctl, hc] <;> rfl

theorem State.resume_withCur (h : SameUse s.cur w) (hconf : s.ctl = .lConf → s.cur.op = 0x19) (a : Answer) :
    (s.withCur w).resume a = outcomeWithCur w (s.resume a) := by
  unfold State.resume
  cases hc : s.ctl <;> simp only [State.withCur_ctl, hc]
  case idle | qExh | fatal => rfl
  case lDisc | sDisc | raDelay | rcDelay | qSdisc | qDelay | qFdisc | pDelay => exact onDone_withCur rfl
  case lOpen => exact onStatus_withCur (s.linkOpened_withCur w)
  case lConf => exact onStatus_withCur (State.linkConfigured_withCur h (hconf hc))
  case sWrite => exact onStatus_withCur (State.writeDone_withCur h)
  case raAvail => exact onCount_withCur (State.raAvailed_withCur h.op)
  case rbRead => exact onBytes_withCur (State.rbGot_withCur h.op)
  case rcAvail => exact onCount_withCur fun n => State.checkC_withCur (s := s.setAvail n) h.op
  case rdRead => exact onBytes_withCur (State.rdGot_withCur h.op)
  case qOpen => exact onStatus_withCur (s.sessionOpened_withCur w)
  case qConf => exact withCandidate_withCur fun c => onStatus_withCur (s.probeConfigured_withCur w c)
  case qWrite => exact onStatus_withCur (s.probeWritten_withCur w)
  case qAvail => exact withCandidate_withCur fun c => onCount_withCur (s.probeAvailed_withCur w c)

theorem State.takeAnswer_withCur (h : SameUse s.cur w) (hconf : s.ctl = .lConf → s.cur.op = 0x19) (a : Answer) :
    (s.withCur w).takeAnswer a = outcomeWithCur w (s.takeAnswer a) := by
  unfold State.takeAnswer
  rw [State.request_withCur h hconf]
  cases s.request with
  | some x => exact State.resume_withCur (s := s.issue x) h hconf a
  | none => cases hc : s.ctl <;> simp only [State.withCur_ctl, hc] <;> rfl

theorem State.goOn_withCur (s : State) (w : CommandWord) : (s.withCur w).goOn = outcomeWithCur w s.goOn := by
  unfold State.goOn
  cases hc : s.ctl <;> simp only [State.withCur_ctl, hc] <;> rfl

theorem State.internalStep_withCur (s : State) (w : CommandWord) :
    (s.withCur w).internalStep = outcomeWithCur w s.internalStep := by
  unfold State.internalStep
  cases hc : s.ctl <;> simp only [State.withCur_ctl, hc] <;> rfl

theorem acceptance_withCur (hop : w.op = s.cur.op) (i : Instr) : acceptance i (s.withCur w) = (acceptance i s).withCur w := by
  cases i
  case nop | crcInit | crcByte | build => rfl
  case send | receive | decode | read | linkOpen | linkConfig | linkDiscard | discStart =>
    simp only [acceptance, State.refuse_withCur hop, State.ite_withCur]
    rfl

/-- What the acceptance code of a command does, its ignored bits do not tell. -/
theorem acceptance_usedOnly (i : Instr) : acceptance (Claims.usedOnly i) = acceptance i := by cases i <;> rfl

end

end Sys2Proof.Machine
end

section
/-! PROOF. Ignored fields have no effect (30_encoding R113, R114). -/

namespace Sys2Proof.Machine

variable {s : State} {v w : CommandWord}

theorem alike_refl (v w : CommandWord) (o : Host.Outcome State Fault Refusal) : Claims.alike v w o o := by
  cases o with
  | next t => exact ⟨rfl, .inl rfl⟩
  | fault f => rfl
  | refused f => rfl

/-- An outcome that keeps the word in cur, and the same outcome with the other word there. -/
theorem alike_withCur {o : Host.Outcome State Fault Refusal} (hkept : outcomeWithCur v o = o) :
    Claims.alike v w o (outcomeWithCur w o) := by
  cases o with
  | next t => exact ⟨rfl, .inr ⟨(congrArg State.cur (Host.Outcome.next.inj hkept)).symm, rfl⟩⟩
  | fault f => rfl
  | refused f => rfl

/-- Acceptance overwrites cur; everywhere else a presented word leaves it. -/
theorem alike_present (s : State) (u w : CommandWord) : Claims.alike s.cur w (s.present u) ((s.withCur w).present u) := by
  by_cases hidle : s.ctl = .idle
  · have hidle' : (s.withCur w).ctl = .idle := hidle
    cases hd : decode u with
    | ok i =>
      rw [State.present_ok hd, State.present_ok hd]
      by_cases hop : i.op = 0
      · rw [exec_eq, exec_eq, if_pos hop, if_pos hop]
        exact alike_withCur (o := .next s) rfl
      · rw [exec_accepts hop hidle, exec_accepts hop hidle']
        exact alike_refl ..
    | error e =>
      rw [State.present_error hd, State.present_error hd, State.offerReserved, State.offerReserved, State.offer_idle hidle,
        State.offer_idle hidle']
      exact alike_refl ..
  · rw [busyWordIsRefused s u hidle, busyWordIsRefused (s.withCur w) u hidle]
    split
    · exact alike_withCur (o := .next s) rfl
    · exact alike_withCur (o := .next (Claims.refusedBusy s u.op)) rfl

/-- A step with either word: presented words and reset overwrite cur or leave it, the engine's own moves leave it. -/
theorem alike_step (h : SameUse s.cur w) (hconf : s.ctl = .lConf → s.cur.op = 0x19) :
    Claims.alike s.cur w (step s) (step (s.withCur w)) := by
  rcases hi : s.inputs with _ | ⟨u | a | _ | _, rest⟩
  · rw [step_goOn hi, step_goOn (s := s.withCur w) hi, State.goOn_withCur]
    exact alike_withCur (s.goOn_withCur s.cur).symm
  · rw [step_present hi, step_present (s := s.withCur w) hi]
    exact alike_present { s with inputs := rest } u w
  · by_cases hc : s.ctl = .qExh
    · simp only [step, hi, State.withCur_inputs, State.onEvents, State.answered, State.withCur_ctl, hc]
      exact alike_withCur (o := .next s.exhaust) rfl
    · rw [step_answer hi hc, step_answer (s := s.withCur w) hi hc]
      have hanswer (v : CommandWord) (hv : SameUse s.cur v) :=
        State.takeAnswer_withCur (s := { s with inputs := rest }) hv hconf a
      exact hanswer w h ▸ alike_withCur (hanswer s.cur (.refl _)).symm
  · rw [step_reset hi, step_reset (s := s.withCur w) hi]
    exact alike_refl ..
  · have hinternal := State.internalStep_withCur { s with inputs := rest }
    simp only [step, hi, State.withCur_inputs, State.onEvents]
    exact hinternal w ▸ alike_withCur (hinternal s.cur).symm

/-- At acceptance the commands run the same code on states that differ in the latched word. -/
theorem exec_usedOnly {i j : Instr} (h : Claims.usedOnly i = Claims.usedOnly j) (s : State) :
    ∃ t u, exec i s = .next t ∧ exec j s = .next u ∧ { u with cur := t.cur } = t := by
  have hop : j.op = i.op := by simpa using (sameUse_of_usedOnly h).op
  have hcode : acceptance j = acceptance i := by rw [← acceptance_usedOnly i, h, acceptance_usedOnly]
  have haccept : acceptance j (s.latch (encode j)) = (acceptance i (s.latch (encode i))).withCur (encode j) := by
    have hlatch : s.latch (encode j) = (s.latch (encode i)).withCur (encode j) := rfl
    rw [hcode, hlatch, acceptance_withCur (s := s.latch (encode i)) (sameUse_of_usedOnly h).op]
  rw [exec_eq i, exec_eq j, hop, haccept]
  refine ⟨_, _, rfl, rfl, ?_⟩
  split
  · rfl
  · split <;> rfl

/-- Settles O9: acceptance runs the same code for both words, and what a site reads of the latched word both have. -/
theorem ignoredFieldsHaveNoEffect : Obligations.IgnoredFieldsHaveNoEffect := by
  refine ⟨fun i j s h => exec_usedOnly h s, fun i j s h hinv hcur => ?_⟩
  have hconf (hc : s.ctl = .lConf) : s.cur.op = 0x19 := by
    have hsite := (State.inv_iff.1 hinv).2
    simp only [State.SiteInv, hc] at hsite
    exact hsite.2.1
  have hstep := alike_step (s := s) (w := encode j) (by rw [hcur]; exact sameUse_of_usedOnly h) hconf
  rwa [hcur] at hstep

end Sys2Proof.Machine
end

section
/-! SUPPORT. Statements of the assembly language and their words (30_encoding R140 to R143): when a command assembles, to which word,
and which word an instruction's listing has. -/

namespace Sys2Proof.Machine

/-! ### Operands (R140) -/

section
variable {listed : List OperandName} {operands : List Operand}

/-- Operands that are listed, stand once each and fit their fields are accepted. -/
theorem checkOperands_ok (hnodup : (operands.map Prod.fst).Nodup)
    (hfit : ∀ o ∈ operands, o.1 ∈ listed ∧ o.2 < 2 ^ o.1.width) : checkOperands listed operands = .ok () := by
  induction operands with
  | nil => rfl
  | cons o rest ih =>
    obtain ⟨honce, hnodup⟩ := List.nodup_cons.1 hnodup
    obtain ⟨⟨hlisted, hwidth⟩, hfit⟩ := List.forall_mem_cons.1 hfit
    rw [checkOperands, if_neg (not_not_intro hlisted), if_neg (by simpa using honce), if_neg (Nat.not_le.2 hwidth)]
    exact ih hnodup hfit

/-- An operand that is not listed is an error, whatever stands before it. -/
theorem checkOperands_not_listed (h : ∃ o ∈ operands, o.1 ∉ listed) : ∃ e, checkOperands listed operands = .error e := by
  induction operands with
  | nil => simp at h
  | cons o rest ih =>
    rw [checkOperands]
    split
    · exact ⟨_, rfl⟩
    · rename_i hlisted
      split
      · exact ⟨_, rfl⟩
      · split
        · exact ⟨_, rfl⟩
        · refine ih ?_
          obtain ⟨x, hx, hnot⟩ := h
          rcases List.mem_cons.1 hx with rfl | hx
          · exact absurd hnot hlisted
          · exact ⟨x, hx, hnot⟩

end

theorem placeOperands_eq_sum (operands : List Operand) :
    placeOperands operands = (operands.map fun o => o.2 * 2 ^ o.1.place).sum := by
  induction operands with
  | nil => rfl
  | cons o rest ih => simp [placeOperands, ih]

/-! ### Commands (R141) -/

section
variable {m : Mnemonic} {operands : List Operand}

theorem assembleCommand_ok (hnodup : (operands.map Prod.fst).Nodup)
    (hfit : ∀ o ∈ operands, o.1 ∈ m.operands ∧ o.2 < 2 ^ o.1.width) :
    assembleCommand m operands = .ok (BitVec.ofNat 64 (m.op * 2 ^ 56 + placeOperands operands)) := by
  simp only [assembleCommand, checkOperands_ok hnodup hfit]

theorem assembleCommand_not_listed (h : ∃ o ∈ operands, o.1 ∉ m.operands) : ∃ e, assembleCommand m operands = .error e := by
  obtain ⟨e, he⟩ := checkOperands_not_listed h
  exact ⟨e, by simp only [assembleCommand, he]⟩

theorem assembleCommands_cons {w : CommandWord} {rest : List (Mnemonic × List Operand)} {ws : List CommandWord}
    (h : assembleCommand m operands = .ok w) (hrest : assembleCommands rest = .ok ws) :
    assembleCommands ((m, operands) :: rest) = .ok (w :: ws) := by
  simp only [assembleCommands, h, hrest]

theorem assemble_command {w : CommandWord} (h : assembleCommand m operands = .ok w) :
    (AsmStatement.command m operands).assemble = .ok [w] := assembleCommands_cons h rfl

theorem assemble_command_error {e : AsmError} (h : assembleCommand m operands = .error e) :
    (AsmStatement.command m operands).assemble = .error e := by
  simp only [AsmStatement.assemble, AsmStatement.expand, assembleCommands, h]

end

/-- A raw word stands for itself (log 13). -/
theorem assemble_word (w : CommandWord) : (AsmStatement.word w.toNat).assemble = .ok [w] := by
  rw [AsmStatement.assemble, if_neg (Nat.not_le.2 w.isLt), BitVec.ofNat_toNat, BitVec.setWidth_eq]

/-! ### Instructions as statements (R142) -/

/-- The mnemonic of an instruction. -/
def mnemonicFor : Instr → Mnemonic
  | .nop _ => .nop
  | .crcInit _ => .crcInit
  | .crcByte _ _ => .crcByte
  | .build _ _ _ _ _ => .build
  | .send _ => .send
  | .receive _ _ _ => .recv
  | .decode _ => .decode
  | .read _ _ _ _ _ => .read
  | .linkOpen _ => .linkOpen
  | .linkConfig _ _ _ _ _ => .linkConfig
  | .linkDiscard _ => .linkDiscard
  | .discStart _ => .discStart

/-- The operands an instruction uses, in the order of R141. -/
def operandsFor : Instr → List Operand
  | .crcByte _ data => [(.data, data.toNat)]
  | .build addr fc start count _ => [(.addr, addr.toNat), (.fc, fc.toNat), (.start, start.toNat), (.count, count.toNat)]
  | .receive _ count _ => [(.count, count.toNat)]
  | .read addr _ start count _ => [(.addr, addr.toNat), (.start, start.toNat), (.count, count.toNat)]
  | .linkConfig addr _ _ driver framing => [(.addr, addr.toNat), (.framing, framing.toNat), (.driver, driver.toNat)]
  | .nop _ => []
  | .crcInit _ => []
  | .send _ => []
  | .decode _ => []
  | .linkOpen _ => []
  | .linkDiscard _ => []
  | .discStart _ => []

theorem listing_eq (i : Instr) : Claims.listing i = .command (mnemonicFor i) (operandsFor i) := by cases i <;> rfl

theorem listing_usedOnly (i : Instr) : Claims.listing (Claims.usedOnly i) = Claims.listing i := by cases i <;> rfl

theorem mnemonicFor_op (i : Instr) : (mnemonicFor i).op = i.op.toNat := by cases i <;> rfl

theorem operandsFor_names (i : Instr) : (operandsFor i).map Prod.fst = (mnemonicFor i).operands := by cases i <;> rfl

theorem operandsFor_nodup (i : Instr) : ((operandsFor i).map Prod.fst).Nodup := by
  rw [operandsFor_names]
  cases mnemonicFor i <;> decide

theorem operandsFor_fit (i : Instr) : ∀ o ∈ operandsFor i, o.2 < 2 ^ o.1.width := by
  cases i <;> simp [operandsFor, OperandName.width, Bool.toNat_le] <;> omega

theorem operandsFor_listed_fit (i : Instr) : ∀ o ∈ operandsFor i, o.1 ∈ (mnemonicFor i).operands ∧ o.2 < 2 ^ o.1.width :=
  fun o ho => ⟨operandsFor_names i ▸ List.mem_map_of_mem ho, operandsFor_fit i o ho⟩

/-- The word of an instruction without ignored bits is its OP plus each operand at its place (R112, R141). -/
theorem encode_usedOnly_toNat (i : Instr) :
    (encode (Claims.usedOnly i)).toNat = (mnemonicFor i).op * 2 ^ 56 + placeOperands (operandsFor i) := by
  cases i <;>
    simp only [encode, Claims.usedOnly, Instr.op, Instr.operandBits, mnemonicFor, Mnemonic.op, operandsFor, placeOperands,
      OperandName.place, toNat_append_eq_add, BitVec.ofNat_eq_ofNat, BitVec.toNat_ofNat, BitVec.toNat_ofBool] <;>
    omega

theorem assembleCommand_operandsFor (i : Instr) :
    assembleCommand (mnemonicFor i) (operandsFor i) = .ok (encode (Claims.usedOnly i)) := by
  rw [assembleCommand_ok (operandsFor_nodup i) (operandsFor_listed_fit i), ← encode_usedOnly_toNat, BitVec.ofNat_toNat,
    BitVec.setWidth_eq]

theorem assemble_listing (i : Instr) : (Claims.listing i).assemble = .ok [encode (Claims.usedOnly i)] := by
  rw [listing_eq]
  exact assemble_command (assembleCommand_operandsFor i)

/-! ### Disassembly (R142) -/

theorem mnemonicOf_eq_some {n : Nat} {m : Mnemonic} : mnemonicOf n = some m ↔ n = m.op := by
  constructor
  · intro h
    unfold mnemonicOf at h
    split at h <;> cases h <;> rfl
  · rintro rfl
    cases m <;> rfl

theorem Mnemonic.op_assigned (m : Mnemonic) : BitVec.ofNat 8 m.op ∈ Claims.assignedOps := by cases m <;> decide

theorem mnemonicOf_reserved {w : CommandWord} (h : w.op ∉ Claims.assignedOps) : mnemonicOf w.op.toNat = none := by
  refine Option.eq_none_iff_forall_ne_some.2 fun m hm => h ?_
  have hop := m.op_assigned
  rwa [← mnemonicOf_eq_some.1 hm, BitVec.ofNat_toNat, BitVec.setWidth_eq] at hop

/-- The disassembler cuts the fields of R112 and R116 out of the word. -/
theorem OperandName.value_eq (w : CommandWord) :
    OperandName.addr.value w = w.addr.toNat ∧ OperandName.fc.value w = w.fc.toNat ∧ OperandName.start.value w = w.start.toNat ∧
      OperandName.count.value w = w.count.toNat ∧ OperandName.data.value w = w.data.toNat ∧
      OperandName.framing.value w = w.framing.toNat ∧ OperandName.driver.value w = w.driver.toNat := by
  have hdriver : w.driver.toNat = (w.extractLsb' 4 1).toNat := by rw [← w.ofBool_driver, BitVec.toNat_ofBool]
  simp only [hdriver, OperandName.value, OperandName.place, OperandName.width, CommandWord.addr, CommandWord.fc, CommandWord.start,
    CommandWord.count, CommandWord.data, CommandWord.framing, BitVec.extractLsb'_toNat, Nat.shiftRight_eq_div_pow, and_self]

theorem operandsFor_values (i : Instr) :
    (mnemonicFor i).operands.map (fun n => (n, n.value (encode i))) = operandsFor i := by
  obtain ⟨haddr, hfc, hstart, hcount, hdata, hframing, hdriver⟩ := OperandName.value_eq (encode i)
  cases i
  case crcByte ign data =>
    obtain ⟨-, hd⟩ := Laws.OperandsAtFields.crcByte ign data
    simp [mnemonicFor, Mnemonic.operands, operandsFor, hdata, hd]
  case build addr fc start count ign =>
    obtain ⟨-, ha, hf, hs, hc⟩ := Laws.OperandsAtFields.build addr fc start count ign
    simp [mnemonicFor, Mnemonic.operands, operandsFor, haddr, hfc, hstart, hcount, ha, hf, hs, hc]
  case receive ignHi count ignLo =>
    obtain ⟨-, hc⟩ := Laws.OperandsAtFields.receive ignHi count ignLo
    simp [mnemonicFor, Mnemonic.operands, operandsFor, hcount, hc]
  case read addr ignFc start count ignData =>
    obtain ⟨-, ha, hs, hc⟩ := Laws.OperandsAtFields.read addr ignFc start count ignData
    simp [mnemonicFor, Mnemonic.operands, operandsFor, haddr, hstart, hcount, ha, hs, hc]
  case linkConfig addr ignMid ignTop driver framing =>
    obtain ⟨-, ha, hd, hf⟩ := Laws.OperandsAtFields.linkConfig addr ignMid ignTop driver framing
    simp [mnemonicFor, Mnemonic.operands, operandsFor, haddr, hframing, hdriver, ha, hd, hf]
  all_goals rfl

theorem disassemble_encode (i : Instr) : disassemble (encode i) = Claims.listing i := by
  have hm : mnemonicOf (encode i).op.toNat = some (mnemonicFor i) := mnemonicOf_eq_some.2 (by rw [encode_op, mnemonicFor_op])
  simp only [disassemble, hm, operandsFor_values, listing_eq]

theorem disassemble_reserved {w : CommandWord} (h : w.op ∉ Claims.assignedOps) : disassemble w = .word w.toNat := by
  simp only [disassemble, mnemonicOf_reserved h]

end Sys2Proof.Machine
end

section
/-! PROOF. Pseudo-instructions (30_encoding R143). -/

namespace Sys2Proof.Machine

theorem assembleCommands_crcBytes (bytes : List Byte) :
    assembleCommands (bytes.map fun b => (.crcByte, [(.data, b.toNat)])) = .ok (bytes.map fun b => encode (.crcByte 0 b)) := by
  induction bytes with
  | nil => rfl
  | cons b rest ih => exact assembleCommands_cons (assembleCommand_operandsFor (.crcByte 0 b)) ih

theorem checkOperands_addr (a : Byte) : checkOperands [.addr] [(.addr, a.toNat)] = .ok () :=
  checkOperands_ok (by simp) (by simp [OperandName.width]; omega)

theorem checkOperands_req (a : Byte) (s c : Half) :
    checkOperands [.addr, .start, .count] [(.addr, a.toNat), (.start, s.toNat), (.count, c.toNat)] = .ok () :=
  checkOperands_ok (by simp) (by simp [OperandName.width]; omega)

/-- `req` puts BUILD's FC last; the operands' places make the word of BUILD's own order all the same. -/
theorem assembleCommand_req (a : Byte) (s c : Half) :
    assembleCommand .build [(.addr, a.toNat), (.start, s.toNat), (.count, c.toNat), (.fc, 0x04)] =
      .ok (encode (.build a 0x04 s c 0)) := by
  have hplace : placeOperands [(.addr, a.toNat), (.start, s.toNat), (.count, c.toNat), (.fc, 0x04)] =
      placeOperands (operandsFor (.build a 0x04 s c 0)) := by
    simp only [operandsFor, placeOperands, BitVec.ofNat_eq_ofNat, BitVec.toNat_ofNat]
    omega
  have hbuild := assembleCommand_operandsFor (.build a 0x04 s c 0)
  rw [assembleCommand_ok (operandsFor_nodup _) (operandsFor_listed_fit _), ← hplace] at hbuild
  rw [assembleCommand_ok (by simp) (by simp [Mnemonic.operands, OperandName.width]; omega)]
  exact hbuild

/-- Settles O58: each expansion command by command; `probe` and `poll.read` are READ's own operands, in its order. -/
theorem pseudoInstructionsExpand : Obligations.PseudoInstructionsExpand := by
  intro a s c bytes
  have hread (n : Half) := assemble_command (assembleCommand_operandsFor (.read a 0 0x0000 n 0))
  refine ⟨?_, ?_, ?_, ?_, rfl⟩
  · simp only [AsmStatement.assemble, AsmStatement.expand, checkOperands_addr]
    exact hread 1
  · simp only [AsmStatement.assemble, AsmStatement.expand, checkOperands_addr]
    exact hread 8
  · simp only [AsmStatement.assemble, AsmStatement.expand, checkOperands_req]
    exact assembleCommands_cons (assembleCommand_req a s c)
      (assembleCommands_cons (assembleCommand_operandsFor (.send 0)) rfl)
  · simp only [AsmStatement.assemble, AsmStatement.expand, List.map_map]
    exact assembleCommands_cons (assembleCommand_operandsFor (.crcInit 0)) (assembleCommands_crcBytes bytes)

end Sys2Proof.Machine
end

section
/-! SUPPORT. Reading a line of text (30_encoding R140): blanks, cuts, digits and names, and a line put together from parts. -/

namespace Sys2Proof.Machine

/-! ### Blanks -/

/-- A text that begins and ends with something else than a blank. -/
structure Solid (cs : List Char) : Prop where
  ne_nil : cs ≠ []
  head : ∀ c ∈ cs.head?, isBlank c = false
  last : ∀ c ∈ cs.getLast?, isBlank c = false

theorem dropWhile_isBlank {cs : List Char} (h : ∀ c ∈ cs.head?, isBlank c = false) : cs.dropWhile isBlank = cs := by
  cases cs with
  | nil => rfl
  | cons c cs => exact List.dropWhile_cons_of_neg (by simp [h c rfl])

theorem Solid.trim {cs : List Char} (h : Solid cs) : trimBlanks cs = cs := by
  rw [trimBlanks, dropWhile_isBlank h.head, dropWhile_isBlank (by simpa using h.last), List.reverse_reverse]

theorem Solid.append {xs ys : List Char} (hx : Solid xs) (mid : List Char) (hy : Solid ys) : Solid (xs ++ (mid ++ ys)) where
  ne_nil := by simp [hx.ne_nil]
  head c hc := hx.head c (by rwa [List.head?_append_of_ne_nil _ hx.ne_nil] at hc)
  last c hc := hy.last c (by
    rwa [List.getLast?_append_of_ne_nil _ (by simp [hy.ne_nil]), List.getLast?_append_of_ne_nil _ hy.ne_nil] at hc)

theorem trimBlanks_cons_blank {c : Char} (h : isBlank c = true) (cs : List Char) : trimBlanks (c :: cs) = trimBlanks cs := by
  rw [trimBlanks, List.dropWhile_cons_of_pos h, trimBlanks]

/-- No blank, and none of the characters that cut a line. -/
def isPlain (c : Char) : Bool := !isBlank c && c != ',' && c != '=' && c != ';'

/-- A text of plain characters, at least one. -/
structure Plain (cs : List Char) : Prop where
  ne_nil : cs ≠ []
  all : ∀ c ∈ cs, isPlain c = true

theorem isPlain_iff (c : Char) : isPlain c = true ↔ isBlank c = false ∧ c ≠ ',' ∧ c ≠ '=' ∧ c ≠ ';' := by
  simp [isPlain, and_assoc]

theorem Plain.not_blank {cs : List Char} (h : Plain cs) : ∀ c ∈ cs, isBlank c = false := fun c hc =>
  ((isPlain_iff c).1 (h.all c hc)).1

theorem Plain.solid {cs : List Char} (h : Plain cs) : Solid cs :=
  ⟨h.ne_nil, fun c hc => h.not_blank c (List.mem_of_mem_head? hc), fun c hc => h.not_blank c (List.mem_of_mem_getLast? hc)⟩

theorem Plain.not_mem_equals {cs : List Char} (h : Plain cs) : '=' ∉ cs := fun hc => absurd (h.all _ hc) (by decide)

/-! ### Cuts -/

theorem cutAt_ne_nil (sep : Char) (cs : List Char) : cutAt sep cs ≠ [] := by
  cases cs with
  | nil => simp [cutAt]
  | cons c cs =>
    rw [cutAt]
    split
    · simp
    · split <;> simp

theorem cutAt_cons_self (sep : Char) (cs : List Char) : cutAt sep (sep :: cs) = [] :: cutAt sep cs := by
  rw [cutAt]
  split
  · exact absurd ‹_› (cutAt_ne_nil sep cs)
  · rename_i h
    simp [h]

theorem cutAt_cons_of_ne {sep c : Char} (h : c ≠ sep) {cs piece : List Char} {pieces : List (List Char)}
    (hcs : cutAt sep cs = piece :: pieces) : cutAt sep (c :: cs) = (c :: piece) :: pieces := by
  simp [cutAt, hcs, h]

theorem cutAt_of_not_mem {sep : Char} {cs : List Char} (h : sep ∉ cs) : cutAt sep cs = [cs] := by
  induction cs with
  | nil => rfl
  | cons c cs ih =>
    obtain ⟨hne, h⟩ := List.ne_and_not_mem_of_not_mem_cons h
    exact cutAt_cons_of_ne hne.symm (ih h)

theorem cutAt_append {sep : Char} {cs : List Char} (h : sep ∉ cs) (rest : List Char) :
    cutAt sep (cs ++ sep :: rest) = cs :: cutAt sep rest := by
  induction cs with
  | nil => exact cutAt_cons_self sep rest
  | cons c cs ih =>
    obtain ⟨hne, h⟩ := List.ne_and_not_mem_of_not_mem_cons h
    exact cutAt_cons_of_ne hne.symm (ih h)

/-- A blank after a comma goes with the piece it stands before, and is trimmed off. -/
theorem map_trimBlanks_cutAt_cons_blank {c sep : Char} (hc : isBlank c = true) (hsep : c ≠ sep) (cs : List Char) :
    (cutAt sep (c :: cs)).map trimBlanks = (cutAt sep cs).map trimBlanks := by
  cases hcs : cutAt sep cs with
  | nil => exact absurd hcs (cutAt_ne_nil sep cs)
  | cons piece pieces => rw [cutAt_cons_of_ne hsep hcs, List.map_cons, List.map_cons, trimBlanks_cons_blank hc]

/-! ### Digits (R140) -/

theorem digitValue_digitText {d : Nat} (h : d < 16) : digitValue (Claims.digitText d) = some d :=
  (show ∀ d : Fin 16, digitValue (Claims.digitText d.val) = some d.val by decide) ⟨d, h⟩

theorem isPlain_digitText {d : Nat} (h : d < 16) : isPlain (Claims.digitText d) = true :=
  (show ∀ d : Fin 16, isPlain (Claims.digitText d.val) = true by decide) ⟨d, h⟩

theorem digitText_ne_x {d : Nat} (h : d < 16) : Claims.digitText d ≠ 'x' :=
  (show ∀ d : Fin 16, Claims.digitText d.val ≠ 'x' by decide) ⟨d, h⟩

theorem readDigits_digitText {base : Nat} (hbase : base ≤ 16) (ds : List (Fin base)) (acc : Nat) :
    readDigits base acc (ds.map fun d => Claims.digitText d.val) = some (ds.foldl (fun v d => v * base + d.val) acc) := by
  induction ds generalizing acc with
  | nil => rfl
  | cons d ds ih =>
    simp only [List.map_cons, readDigits, digitValue_digitText (Nat.lt_of_lt_of_le d.isLt hbase), if_pos d.isLt, List.foldl_cons, ih]

/-- Without `x` a value is decimal. -/
theorem readValue_decimal {cs : List Char} (hne : cs ≠ []) (hx : 'x' ∉ cs) {v : Nat} (hv : readDigits 10 0 cs = some v) :
    readValue cs = .ok v := by
  cases cs with
  | nil => exact absurd rfl hne
  | cons c cs =>
    rw [readValue]
    · simp only [hv]
    · rintro d ds hzero rfl
      simp at hx

theorem readValue_hexadecimal {cs : List Char} (hne : cs ≠ []) {v : Nat} (hv : readDigits 16 0 cs = some v) :
    readValue ("0x".toList ++ cs) = .ok v := by
  cases cs with
  | nil => exact absurd rfl hne
  | cons c cs =>
    change readValue ('0' :: 'x' :: c :: cs) = _
    simp only [readValue, hv]

theorem readValue_text {n : Claims.Numeral} (h : n.HasDigits) : readValue n.text = .ok n.value := by
  cases n with
  | decimal ds =>
    refine readValue_decimal (fun hnil => h (List.map_eq_nil_iff.1 hnil)) (fun hx => ?_) (readDigits_digitText (by decide) ds 0)
    obtain ⟨d, -, hd⟩ := List.mem_map.1 hx
    exact digitText_ne_x (by omega) hd
  | hexadecimal ds =>
    exact readValue_hexadecimal (fun hnil => h (List.map_eq_nil_iff.1 hnil)) (readDigits_digitText (Nat.le_refl 16) ds 0)

theorem Numeral.text_plain {n : Claims.Numeral} (h : n.HasDigits) : Plain n.text := by
  cases n with
  | decimal ds =>
    refine ⟨fun hnil => h (List.map_eq_nil_iff.1 hnil), fun c hc => ?_⟩
    obtain ⟨d, -, rfl⟩ := List.mem_map.1 hc
    exact isPlain_digitText (by omega)
  | hexadecimal ds =>
    refine ⟨by simp [Claims.Numeral.text], fun c hc => ?_⟩
    rcases List.mem_append.1 hc with hc | hc
    · exact List.all_eq_true.1 (show "0x".toList.all isPlain = true by decide) c hc
    · obtain ⟨d, -, rfl⟩ := List.mem_map.1 hc
      exact isPlain_digitText d.isLt

/-! ### Names (R140, R141) -/

theorem operandRow_eq (n : OperandName) :
    (Claims.operandRow n).1.toList = n.text ∧ (Claims.operandRow n).2.1 = n.place ∧ (Claims.operandRow n).2.2 = n.width := by
  cases n <;> exact ⟨rfl, rfl, rfl⟩

theorem commandRow_eq (m : Mnemonic) :
    (Claims.commandRow m).1.toList = m.text ∧ (Claims.commandRow m).2.1 = m.op ∧ (Claims.commandRow m).2.2 = m.operands := by
  cases m <;> exact ⟨rfl, rfl, rfl⟩

theorem OperandName.text_plain (n : OperandName) : Plain n.text := by
  cases n <;> exact ⟨by decide, List.all_eq_true.1 (by decide)⟩

theorem Mnemonic.text_plain (m : Mnemonic) : Plain m.text := by
  cases m <;> exact ⟨by decide, List.all_eq_true.1 (by decide)⟩

theorem readOperandName_text (n : OperandName) : readOperandName n.text = some n := by cases n <;> decide

theorem readMnemonic_text (m : Mnemonic) : readMnemonic m.text = some m := by cases m <;> decide

/-! ### Operands -/

theorem operandText_eq (n : OperandName) (value : List Char) : Claims.operandText n value = n.text ++ '=' :: value := by
  rw [Claims.operandText, (operandRow_eq n).1, List.append_assoc]
  rfl

theorem readOperand_operandText (n : OperandName) {value : List Char} {v : Nat} (hplain : Plain value)
    (hv : readValue value = .ok v) : readOperand (Claims.operandText n value) = .ok (n, v) := by
  simp only [readOperand, operandText_eq, cutAt_append n.text_plain.not_mem_equals, cutAt_of_not_mem hplain.not_mem_equals,
    n.text_plain.solid.trim, hplain.solid.trim, readOperandName_text, hv]

/-- What a comma may cut off and a line may carry: no blank, no comma and no comment in it. -/
structure Piece (cs : List Char) : Prop where
  ne_nil : cs ≠ []
  all : ∀ c ∈ cs, isBlank c = false ∧ c ≠ ',' ∧ c ≠ ';'

theorem Piece.solid {cs : List Char} (h : Piece cs) : Solid cs :=
  ⟨h.ne_nil, fun c hc => (h.all c (List.mem_of_mem_head? hc)).1, fun c hc => (h.all c (List.mem_of_mem_getLast? hc)).1⟩

theorem Plain.piece {cs : List Char} (h : Plain cs) : Piece cs :=
  ⟨h.ne_nil, fun c hc => have ⟨hblank, hcomma, _, hsemi⟩ := (isPlain_iff c).1 (h.all c hc); ⟨hblank, hcomma, hsemi⟩⟩

theorem operandText_piece (n : OperandName) {value : List Char} (h : Plain value) : Piece (Claims.operandText n value) := by
  rw [operandText_eq]
  refine ⟨by simp, fun c hc => ?_⟩
  rcases List.mem_append.1 hc with hc | hc
  · exact n.text_plain.piece.all c hc
  · rcases List.mem_cons.1 hc with rfl | hc
    · decide
    · exact h.piece.all c hc

theorem readAll_map {α β : Type} {f : List Char → Except AsmError α} {text : β → List Char} {value : β → α} {xs : List β}
    (h : ∀ x ∈ xs, f (text x) = .ok (value x)) : readAll f (xs.map text) = .ok (xs.map value) := by
  induction xs with
  | nil => rfl
  | cons x xs ih =>
    obtain ⟨hx, hxs⟩ := List.forall_mem_cons.1 h
    simp only [List.map_cons, readAll, hx, ih hxs]

/-! ### Pieces between commas -/

/-- The separators of R140: a comma, with or without a blank after it. -/
def IsSeparator (sep : List Char) : Prop := sep = [','] ∨ sep = [',', ' ']

section
variable {sep : List Char} {pieces : List (List Char)}

theorem intersperse_solid (hpieces : ∀ p ∈ pieces, Piece p) (hne : pieces ≠ []) : Solid (pieces.intersperse sep).flatten := by
  induction pieces with
  | nil => exact absurd rfl hne
  | cons p ps ih =>
    obtain ⟨hp, hps⟩ := List.forall_mem_cons.1 hpieces
    cases ps with
    | nil => simpa using hp.solid
    | cons q ps => simpa using hp.solid.append sep (ih hps (by simp))

theorem not_mem_intersperse (hsep : IsSeparator sep) (hpieces : ∀ p ∈ pieces, Piece p) :
    ';' ∉ (pieces.intersperse sep).flatten := by
  have hsemi : ';' ∉ sep := by rcases hsep with rfl | rfl <;> decide
  induction pieces with
  | nil => simp
  | cons p ps ih =>
    obtain ⟨hp, hps⟩ := List.forall_mem_cons.1 hpieces
    have hmem : ';' ∉ p := fun hc => (hp.all _ hc).2.2 rfl
    cases ps with
    | nil => simpa using hmem
    | cons q ps => simpa [hmem, hsemi] using ih hps

theorem cutAt_intersperse (hsep : IsSeparator sep) (hpieces : ∀ p ∈ pieces, Piece p) (hne : pieces ≠ []) :
    (cutAt ',' (pieces.intersperse sep).flatten).map trimBlanks = pieces := by
  induction pieces with
  | nil => exact absurd rfl hne
  | cons p ps ih =>
    obtain ⟨hp, hps⟩ := List.forall_mem_cons.1 hpieces
    have hcomma : ',' ∉ p := fun hc => (hp.all _ hc).2.1 rfl
    cases ps with
    | nil => simp [cutAt_of_not_mem hcomma, hp.solid.trim]
    | cons q ps =>
      have hrest := ih hps (by simp)
      rcases hsep with rfl | rfl
      · simp only [List.intersperse_cons_cons, List.flatten_cons, List.cons_append, List.nil_append]
        rw [cutAt_append hcomma, List.map_cons, hp.solid.trim, hrest]
      · simp only [List.intersperse_cons_cons, List.flatten_cons, List.cons_append, List.nil_append]
        rw [cutAt_append hcomma, List.map_cons, hp.solid.trim, map_trimBlanks_cutAt_cons_blank (by decide) (by decide), hrest]

theorem commaPieces_intersperse (hsep : IsSeparator sep) (hpieces : ∀ p ∈ pieces, Piece p) (hne : pieces ≠ []) :
    commaPieces (pieces.intersperse sep).flatten = pieces := by
  have hcut := cutAt_intersperse hsep hpieces hne
  have hsolid := intersperse_solid (sep := sep) hpieces hne
  unfold commaPieces
  split
  · exact absurd ‹_› hsolid.ne_nil
  · exact ‹_ = _› ▸ hcut

end

/-! ### Lines -/

section
variable {name : List Char}

theorem takeWhile_not_comment {cs : List Char} (h : ';' ∉ cs) : cs.takeWhile (fun c => c != ';') = cs :=
  List.takeWhile_eq_self_iff.2 fun _ hc => bne_iff_ne.2 fun heq => h (heq ▸ hc)

theorem Plain.not_mem_comment (h : Plain name) : ';' ∉ name := fun hc => absurd (h.all _ hc) (by decide)

theorem readLine_name (h : Plain name) : readLine name = readStatement name [] := by
  have htake : name.takeWhile (fun c => !isBlank c) = name := List.takeWhile_eq_self_iff.2 fun c hc => by simp [h.not_blank c hc]
  have hdrop : name.dropWhile (fun c => !isBlank c) = [] := List.dropWhile_eq_nil_iff.2 fun c hc => by simp [h.not_blank c hc]
  unfold readLine
  simp only [takeWhile_not_comment h.not_mem_comment, h.solid.trim, htake, hdrop]
  cases name with
  | nil => exact absurd rfl h.ne_nil
  | cons c cs => rfl

theorem readLine_parts (h : Plain name) {body : List Char} (hbody : Solid body) (hcomment : ';' ∉ body) :
    readLine (name ++ ' ' :: body) = readStatement name body := by
  have hline : ';' ∉ name ++ ' ' :: body := by simp [h.not_mem_comment, hcomment]
  have htrim : trimBlanks (name ++ ' ' :: body) = name ++ ' ' :: body := (h.solid.append [' '] hbody).trim
  have hname : ∀ c ∈ name, (!isBlank c) = true := fun c hc => by simp [h.not_blank c hc]
  have htake : (name ++ ' ' :: body).takeWhile (fun c => !isBlank c) = name := by
    rw [List.takeWhile_append_of_pos hname, List.takeWhile_cons_of_neg (by decide), List.append_nil]
  have hdrop : (name ++ ' ' :: body).dropWhile (fun c => !isBlank c) = ' ' :: body := by
    rw [List.dropWhile_append_of_pos hname, List.dropWhile_cons_of_neg (by decide)]
  unfold readLine
  simp only [takeWhile_not_comment hline, htrim, htake, hdrop, trimBlanks_cons_blank (show isBlank ' ' = true by decide),
    hbody.trim]
  cases name with
  | nil => exact absurd rfl h.ne_nil
  | cons c cs => rfl

theorem readStatement_mnemonic (m : Mnemonic) {body : List Char} {operands : List Operand}
    (h : readAll readOperand (commaPieces body) = .ok operands) :
    readStatement m.text body = .ok (some (.command m operands)) := by
  simp only [readStatement, readMnemonic_text, h, build?]

/-- The line of a command reads as the command with the operands' values. -/
theorem readLine_sourceLine (m : Mnemonic) {sep : String} (hsep : IsSeparator sep.toList)
    {operands : List (OperandName × Claims.Numeral)} (hdigits : ∀ o ∈ operands, o.2.HasDigits) :
    readLine (Claims.sourceLine m sep operands) = .ok (some (.command m (operands.map fun o => (o.1, o.2.value)))) := by
  have hpieces : ∀ p ∈ operands.map fun o => Claims.operandText o.1 o.2.text, Piece p := fun p hp => by
    obtain ⟨o, ho, rfl⟩ := List.mem_map.1 hp
    exact operandText_piece o.1 (Numeral.text_plain (hdigits o ho))
  have hread := readAll_map (f := readOperand) (value := fun o : OperandName × Claims.Numeral => (o.1, o.2.value)) fun o ho =>
    readOperand_operandText o.1 (Numeral.text_plain (hdigits o ho)) (readValue_text (hdigits o ho))
  unfold Claims.sourceLine Claims.commandText
  rw [(commandRow_eq m).1]
  by_cases hnil : operands = []
  · subst hnil
    simpa using (readLine_name m.text_plain).trans (readStatement_mnemonic m (body := []) rfl)
  · have hne : (operands.map fun o => Claims.operandText o.1 o.2.text) ≠ [] := by simpa using hnil
    rw [if_neg hne]
    refine (readLine_parts m.text_plain (intersperse_solid hpieces hne) (not_mem_intersperse hsep hpieces)).trans ?_
    exact readStatement_mnemonic m (by rw [commaPieces_intersperse hsep hpieces hne]; exact hread)

end

end Sys2Proof.Machine
end

section
/-! PROOF. The assembler on lines and texts (30_encoding R140, R141). -/

namespace Sys2Proof.Machine

theorem assembleLine_of_readLine {line : List Char} {st : AsmStatement} (h : readLine line = .ok (some st)) :
    assembleLine line = st.assemble := by
  simp only [assembleLine, h]

theorem takeWhile_comment (line comment : List Char) :
    (line ++ ';' :: comment).takeWhile (fun c => c != ';') = line.takeWhile (fun c => c != ';') := by
  induction line with
  | nil => rfl
  | cons c line ih => simp only [List.cons_append, List.takeWhile_cons, ih]

theorem assembleLine_comment (line comment : List Char) : assembleLine (line ++ ';' :: comment) = assembleLine line := by
  simp only [assembleLine, readLine, takeWhile_comment]

theorem assembleLines_cons {line : List Char} {rest : List (List Char)} {ws more : List CommandWord}
    (h : assembleLine line = .ok ws) (hrest : assembleLines rest = .ok more) :
    assembleLines (line :: rest) = .ok (ws ++ more) := by
  simp only [assembleLines, h, hrest]

theorem assembleText_line {line : List Char} (h : '\n' ∉ line) : assembleText line = assembleLine line := by
  rw [assembleText, cutAt_of_not_mem h]
  cases hline : assembleLine line with
  | ok ws => simpa using assembleLines_cons hline (rest := []) rfl
  | error e => simp only [assembleLines, hline]

theorem assembleText_cons {line rest : List Char} {ws more : List CommandWord} (hline : '\n' ∉ line)
    (h : assembleLine line = .ok ws) (hrest : assembleText rest = .ok more) :
    assembleText (line ++ '\n' :: rest) = .ok (ws ++ more) := by
  rw [assembleText, cutAt_append hline]
  exact assembleLines_cons h hrest

section
variable {m : Mnemonic} {sep : String} {operands : List (OperandName × Claims.Numeral)}

theorem assembleLine_sourceLine (hsep : sep = "," ∨ sep = ", ") (hdigits : ∀ o ∈ operands, o.2.HasDigits) :
    assembleLine (Claims.sourceLine m sep operands) =
      (AsmStatement.command m (operands.map fun o => (o.1, o.2.value))).assemble := by
  refine assembleLine_of_readLine (readLine_sourceLine m ?_ hdigits)
  rcases hsep with rfl | rfl
  · exact .inl rfl
  · exact .inr rfl

/-- Listed operands, each once and fitting its field, stand at their places in the word; the omitted ones add nothing. -/
theorem sourceLine_places (hsep : sep = "," ∨ sep = ", ") (hdigits : ∀ o ∈ operands, o.2.HasDigits)
    (hnodup : (operands.map Prod.fst).Nodup)
    (hfit : ∀ o ∈ operands, o.1 ∈ (Claims.commandRow m).2.2 ∧ o.2.value < 2 ^ (Claims.operandRow o.1).2.2) :
    assembleLine (Claims.sourceLine m sep operands) =
      .ok [BitVec.ofNat 64 ((Claims.commandRow m).2.1 * 2 ^ 56 +
        (operands.map fun o => o.2.value * 2 ^ (Claims.operandRow o.1).2.1).sum)] := by
  obtain ⟨-, hop, hlisted⟩ := commandRow_eq m
  have hfit' : ∀ x ∈ operands.map (fun o => (o.1, o.2.value)), x.1 ∈ m.operands ∧ x.2 < 2 ^ x.1.width := fun x hx => by
    obtain ⟨o, ho, rfl⟩ := List.mem_map.1 hx
    simpa [hlisted, (operandRow_eq o.1).2.2] using hfit o ho
  rw [assembleLine_sourceLine hsep hdigits, assemble_command (assembleCommand_ok (by simpa [Function.comp_def] using hnodup) hfit'),
    placeOperands_eq_sum, hop, List.map_map]
  simp only [Function.comp_def, (operandRow_eq _).2.1]

theorem sourceLine_not_listed (hsep : sep = "," ∨ sep = ", ") (hdigits : ∀ o ∈ operands, o.2.HasDigits)
    (h : ∃ o ∈ operands, o.1 ∉ (Claims.commandRow m).2.2) :
    ∃ e, assembleLine (Claims.sourceLine m sep operands) = .error e := by
  obtain ⟨o, ho, hnot⟩ := h
  rw [(commandRow_eq m).2.2] at hnot
  obtain ⟨e, he⟩ := assembleCommand_not_listed (m := m) (operands := operands.map fun o => (o.1, o.2.value))
    ⟨(o.1, o.2.value), List.mem_map.2 ⟨o, ho, rfl⟩, hnot⟩
  exact ⟨e, by rw [assembleLine_sourceLine hsep hdigits, assemble_command_error he]⟩

end

/-- Settles O60: a line reads back as its command and values, which are checked and placed one by one; comments and line ends are cut
off before. -/
theorem assemblerReadsLines : Obligations.AssemblerReadsLines :=
  ⟨fun _ _ _ hsep hdigits => ⟨sourceLine_places hsep hdigits, sourceLine_not_listed hsep hdigits⟩, assembleLine_comment,
    fun _ => assembleText_line, fun _ _ _ _ => assembleText_cons⟩

end Sys2Proof.Machine
end

section
/-! SUPPORT. Printed values (30_encoding R142): the disassembler's digits as a numeral that reads back. -/

namespace Sys2Proof.Machine

/-- The lowest `n` hexadecimal digits of a value. -/
def hexFins : Nat → Nat → List (Fin 16)
  | 0, _ => []
  | n + 1, v => hexFins n (v / 16) ++ [Fin.ofNat 16 v]

theorem hexDigit_eq (d : Fin 16) : hexDigit d.val = Claims.digitText d.val := by
  revert d
  decide

theorem hexDigits_eq (n v : Nat) : hexDigits n v = (hexFins n v).map fun d => Claims.digitText d.val := by
  induction n generalizing v with
  | zero => rfl
  | succ n ih => simpa [hexDigits, hexFins, ih] using hexDigit_eq (Fin.ofNat 16 v)

theorem hexText_eq (n v : Nat) : Claims.hexText n v = (hexFins n v).map fun d => Claims.digitText d.val := by
  induction n generalizing v with
  | zero => rfl
  | succ n ih =>
    rw [hexFins, List.map_append, ← ih]
    simp [Claims.hexText, List.range_succ_eq_map, Function.comp_def, Nat.pow_succ', Nat.div_div_eq_div_mul]

theorem hexFins_value (n v : Nat) : (hexFins n v).foldl (fun v d => v * 16 + d.val) 0 = v % 16 ^ n := by
  induction n generalizing v with
  | zero => simp [hexFins, Nat.mod_one]
  | succ n ih =>
    rw [hexFins, List.foldl_append, ih, Nat.pow_succ', Nat.mod_mul]
    simp
    omega

theorem hexFins_ne_nil {n : Nat} (h : 0 < n) (v : Nat) : hexFins n v ≠ [] := by
  cases n with
  | zero => simp at h
  | succ n => simp [hexFins]

/-- A value as the disassembler prints it. -/
def printedNumeral (n v : Nat) : Claims.Numeral := .hexadecimal (hexFins n v)

theorem printedNumeral_text (n v : Nat) : (printedNumeral n v).text = "0x".toList ++ Claims.hexText n v := by
  rw [hexText_eq]
  rfl

theorem printedNumeral_value {n v : Nat} (h : v < 16 ^ n) : (printedNumeral n v).value = v :=
  (hexFins_value n v).trans (Nat.mod_eq_of_lt h)

theorem printedNumeral_hasDigits {n : Nat} (h : 0 < n) (v : Nat) : (printedNumeral n v).HasDigits := hexFins_ne_nil h v

theorem printValue_eq (n v : Nat) : printValue n v = "0x".toList ++ Claims.hexText n v := by
  rw [printValue, hexDigits_eq, hexText_eq]

/-- Enough digits for a field (log 13). -/
theorem OperandName.fits_digits (n : OperandName) {v : Nat} (h : v < 2 ^ n.width) : v < 16 ^ ((n.width + 3) / 4) := by
  refine Nat.lt_of_lt_of_le h ?_
  cases n <;> decide

theorem OperandName.digits_pos (n : OperandName) : 0 < (n.width + 3) / 4 := by cases n <;> decide

/-! ### Listings as lines -/

theorem printOperand_eq (o : Operand) : printOperand o =
    Claims.operandText o.1 ("0x".toList ++ Claims.hexText (((Claims.operandRow o.1).2.2 + 3) / 4) o.2) := by
  rw [printOperand, printValue_eq, Claims.operandText, (operandRow_eq o.1).1, (operandRow_eq o.1).2.2]

/-- A command prints as R141 spells it. -/
theorem print_command (m : Mnemonic) (operands : List Operand) : (AsmStatement.command m operands).print =
    Claims.commandText m ", " (operands.map fun o =>
      Claims.operandText o.1 ("0x".toList ++ Claims.hexText (((Claims.operandRow o.1).2.2 + 3) / 4) o.2)) := by
  have hprint : printOperand = _ := funext printOperand_eq
  rw [AsmStatement.print, hprint, Claims.commandText, (commandRow_eq m).1]
  cases operands with
  | nil => simp [printParts]
  | cons o rest => simp [printParts]

/-- An operand with its value as it is printed. -/
def printedOperand (o : Operand) : OperandName × Claims.Numeral := (o.1, printedNumeral ((o.1.width + 3) / 4) o.2)

theorem print_eq_sourceLine (m : Mnemonic) (operands : List Operand) :
    (AsmStatement.command m operands).print = Claims.sourceLine m ", " (operands.map printedOperand) := by
  simp only [print_command, Claims.sourceLine, List.map_map, Function.comp_def, printedOperand, printedNumeral_text,
    (operandRow_eq _).2.2]

/-- A printed command reads back as itself. -/
theorem readLine_print_command {m : Mnemonic} {operands : List Operand} (hfit : ∀ o ∈ operands, o.2 < 2 ^ o.1.width) :
    readLine (AsmStatement.command m operands).print = .ok (some (.command m operands)) := by
  have hvalues : (operands.map printedOperand).map (fun o => (o.1, o.2.value)) = operands := by
    have hvalue : ∀ o ∈ operands, ((fun o => (o.1, o.2.value)) ∘ printedOperand) o = id o := fun o ho =>
      Prod.ext rfl (printedNumeral_value (o.1.fits_digits (hfit o ho)))
    rw [List.map_map, List.map_congr_left hvalue, List.map_id]
  have hdigits : ∀ o ∈ operands.map printedOperand, o.2.HasDigits := fun x hx => by
    obtain ⟨o, -, rfl⟩ := List.mem_map.1 hx
    exact printedNumeral_hasDigits o.1.digits_pos o.2
  rw [print_eq_sourceLine, readLine_sourceLine m (.inr rfl) hdigits, hvalues]

theorem print_word (v : Nat) : (AsmStatement.word v).print = ".word".toList ++ ' ' :: (printedNumeral 16 v).text := by
  simp [AsmStatement.print, printParts, printValue_eq, printedNumeral_text]

theorem readStatement_word {body : List Char} {v : Nat} (h : readValue body = .ok v) :
    readStatement ".word".toList body = .ok (some (.word v)) := by
  have hname : readMnemonic ".word".toList = none := by decide
  simp only [readStatement, hname, if_true, h, build?]

/-- A printed word reads back as itself. -/
theorem readLine_print_word {v : Nat} (h : v < 2 ^ 64) : readLine (AsmStatement.word v).print = .ok (some (.word v)) := by
  have hdigits := printedNumeral_hasDigits (n := 16) (by decide) v
  have hplain := Numeral.text_plain hdigits
  have hname : Plain ".word".toList := ⟨by decide, List.all_eq_true.1 (by decide)⟩
  rw [print_word, readLine_parts hname hplain.solid hplain.not_mem_comment]
  exact readStatement_word ((readValue_text hdigits).trans (congrArg Except.ok (printedNumeral_value h)))

/-- The disassembler's line for a word reads back as its statement. -/
theorem readLine_disassembleLine (w : CommandWord) : readLine (disassembleLine w) = .ok (some (disassemble w)) := by
  unfold disassembleLine
  by_cases h : w.op ∈ Claims.assignedOps
  · obtain ⟨i, hi⟩ := (decodes_iff w).2 h
    rw [← encode_of_decode hi, disassemble_encode, listing_eq]
    exact readLine_print_command (operandsFor_fit i)
  · rw [disassemble_reserved h]
    exact readLine_print_word w.isLt

end Sys2Proof.Machine
end

section
/-! PROOF. The disassembler (30_encoding R142). -/

namespace Sys2Proof.Machine

/-- Settles O57: a word's listing is its instruction's, or `.word`; both print as R142 spells them, and the line reads back as the
listing, so text and statement assemble alike. -/
theorem disassemblyAssembles : Obligations.DisassemblyAssembles := by
  have hline (w : CommandWord) := assembleLine_of_readLine (readLine_disassembleLine w)
  refine ⟨fun w i hi => ?_, fun w hop => ?_, fun w => ?_⟩
  · obtain rfl := encode_of_decode hi
    rw [disassembleLine, disassemble_encode]
    exact ⟨rfl, assemble_listing i, fun m operands h => by rw [h, print_command]⟩
  · rw [disassembleLine, disassemble_reserved hop, print_word, printedNumeral_text]
    exact ⟨rfl, assemble_word w, rfl⟩
  · rw [hline]
    by_cases hop : w.op ∈ Claims.assignedOps
    · obtain ⟨i, hi⟩ := (decodes_iff w).2 hop
      obtain rfl := encode_of_decode hi
      rw [disassemble_encode, encode_op]
      exact ⟨encode (Claims.usedOnly i), assemble_listing i, assemble_listing i, by rw [disassemble_encode, listing_usedOnly],
        by simpa using (sameUse_usedOnly i).op⟩
    · rw [disassemble_reserved hop]
      exact ⟨w, assemble_word w, assemble_word w, disassemble_reserved hop, rfl⟩

end Sys2Proof.Machine
end

section
/-! SUPPORT. The CRC function (40_crc R150 to R156): its steps can be undone, in the accumulator and in the byte, and shift out a
trailer without a trace. -/

namespace Sys2Proof.Machine

/-! ### One bit (R152) -/

theorem crcBit_of_low_clear {c : Half} (h : c.getLsbD 0 = false) : crcBit c = c >>> 1 := if_neg (Bool.eq_false_iff.1 h)

theorem crcBit_of_low_set {c : Half} (h : c.getLsbD 0 = true) : crcBit c = c >>> 1 ^^^ Config.crcPoly := if_pos h

/-- CRC_POLY has its top bit set, so the bit shifted out shows at the top. -/
theorem crcBit_top (c : Half) : (crcBit c).getLsbD 15 = c.getLsbD 0 := by
  cases h : c.getLsbD 0 with
  | false =>
    rw [crcBit_of_low_clear h]
    simp
  | true =>
    rw [crcBit_of_low_set h]
    simp [Config.crcPoly]

/-- A word is its lowest bit and the bits above it. -/
theorem eq_of_low_of_shift {c d : Half} (hlow : c.getLsbD 0 = d.getLsbD 0) (hshift : c >>> 1 = d >>> 1) : c = d := by
  refine BitVec.eq_of_getLsbD_eq fun i _ => ?_
  cases i with
  | zero => exact hlow
  | succ i => simpa [Nat.add_comm] using congrArg (BitVec.getLsbD · i) hshift

/-- The top bit of the result tells which branch was taken, and each branch can be undone. -/
theorem crcBit_injective : Function.Injective crcBit := by
  intro c d h
  have hlow : c.getLsbD 0 = d.getLsbD 0 := by rw [← crcBit_top, h, crcBit_top]
  refine eq_of_low_of_shift hlow ?_
  cases hd : d.getLsbD 0 with
  | false => rwa [crcBit_of_low_clear (hlow.trans hd), crcBit_of_low_clear hd] at h
  | true => rwa [crcBit_of_low_set (hlow.trans hd), crcBit_of_low_set hd, BitVec.xor_left_inj] at h

theorem crcBits_injective (n : Nat) : Function.Injective (crcBits n) := by
  induction n with
  | zero => exact Function.injective_id
  | succ n ih => exact ih.comp crcBit_injective

/-- While zeros are shifted out, nothing is exclusive-ored in. -/
theorem crcBits_of_low_clear {n : Nat} {c : Half} (h : ∀ i < n, c.getLsbD i = false) : crcBits n c = c >>> n := by
  induction n generalizing c with
  | zero => simp [crcBits]
  | succ n ih =>
    have hnext : ∀ i < n, (c >>> 1).getLsbD i = false := fun i hi => by
      simpa [Nat.add_comm] using h (i + 1) (Nat.succ_lt_succ hi)
    rw [crcBits, crcBit_of_low_clear (h 0 n.succ_pos), ih hnext, Nat.add_comm, BitVec.shiftRight_add]

/-! ### One byte (R151) -/

theorem crcStep_injective (b : Byte) : Function.Injective (crcStep · b) := fun c d h => by
  simpa using crcBits_injective 8 h

theorem crcStep_byte_injective (c : Half) : Function.Injective (crcStep c) := fun a b h => by
  have hwide : a.setWidth 16 = b.setWidth 16 := by simpa using crcBits_injective 8 h
  simpa using congrArg (BitVec.setWidth 8) hwide

/-- The accumulator's own low byte shifts its high byte down. -/
theorem crcStep_crcLo (c : Half) : crcStep c (crcLo c) = c >>> 8 := by
  rw [crcStep, crcBits_of_low_clear]
  · ext i hi
    simp [crcLo]
  · intro i hi
    have hwide : i < 16 := by omega
    simp [crcLo, hi, hwide]

theorem crcStep_crcHi (c : Half) : crcStep (c >>> 8) (crcHi c) = 0 := by
  have hzero : c >>> 8 ^^^ (crcHi c).setWidth 16 = 0 := by
    ext i hi
    have hhigh : c.getLsbD (8 + i) = true → i < 8 := fun hset => by
      have := BitVec.lt_of_getLsbD hset
      omega
    simpa [crcHi] using hhigh
  rw [crcStep, hzero, crcBits_of_low_clear (by simp)]
  rfl

/-! ### Byte sequences (R150, R155) -/

theorem crcFold_cons (c : Half) (b : Byte) (s : List Byte) : crcFold c (b :: s) = crcFold (crcStep c b) s := rfl

theorem crcFold_injective (s : List Byte) : Function.Injective (crcFold · s) := by
  induction s with
  | nil => exact Function.injective_id
  | cons b s ih => exact ih.comp (crcStep_injective b)

theorem crc16_append (a b : List Byte) : crc16 (a ++ b) = crcFold (crc16 a) b := List.foldl_append

theorem crc16_append_trailer (s : List Byte) : crc16 (s ++ crcTrailer (crc16 s)) = 0 := by
  rw [crc16_append, crcTrailer, crcFold_cons, crcStep_crcLo, crcFold_cons, crcStep_crcHi]
  rfl

/-- A valid frame has the residual 0 (R156). -/
theorem crc16_of_frameValid {f : List Byte} (h : frameValid f = true) : crc16 f = 0 := by
  obtain ⟨-, htrailer⟩ : _ ∧ f.drop (f.length - 2) = crcTrailer (crc16 (f.take (f.length - 2))) := by
    simpa only [frameValid, Bool.and_eq_true, beq_iff_eq] using h
  have hres := crc16_append_trailer (f.take (f.length - 2))
  rwa [← htrailer, List.take_append_drop] at hres

theorem crc16_set {f : List Byte} {i : Nat} (hi : i < f.length) (b : Byte) :
    crc16 (f.set i b) = crcFold (crcStep (crc16 (f.take i)) b) (f.drop (i + 1)) := by
  rw [List.set_eq_take_append_cons_drop, if_pos hi, crc16_append, crcFold_cons]

end Sys2Proof.Machine
end

section
/-! SUPPORT. Runs of presented commands (30_encoding R110): a command accepted at IDLE as one step, and steps chained into a run. -/

namespace Sys2Proof.Machine

variable {s t : State}

theorem step_accepts {i : Instr} {rest : List Event} (hop : i.op ≠ 0) (hidle : s.ctl = .idle)
    (hi : s.inputs = .present (encode i) :: rest) :
    step s = .next (acceptance i (State.latch { s with inputs := rest } (encode i))) := by
  rw [step_present hi, State.present_ok (decode_encode i)]
  exact exec_accepts hop hidle

theorem crcInit_op_ne_zero (ign : BitVec 56) : (Instr.crcInit ign).op ≠ 0 := (by decide : (0x01 : Byte) ≠ 0)

theorem crcByte_op_ne_zero (ign : BitVec 48) (data : Byte) : (Instr.crcByte ign data).op ≠ 0 := (by decide : (0x02 : Byte) ≠ 0)

theorem run_succ (h : step s = .next t) (k : Nat) : Host.Core.run core (k + 1) s = Host.Core.run core k t := by
  have hcore : core.step s = .next t := h
  simp only [Host.Core.run, hcore]

/-- A CRC_BYTE per byte folds the bytes into the accumulator (R154). -/
theorem run_crcBytes {bytes : List Byte} {rest : List Event} (hidle : s.ctl = .idle)
    (hi : s.inputs = (bytes.map fun b => .present (encode (.crcByte 0 b))) ++ rest) :
    ∃ t, Host.Core.run core bytes.length s = .next t ∧ t.crc = crcFold s.crc bytes ∧ t.inputs = rest ∧ t.ctl = .idle := by
  induction bytes generalizing s with
  | nil => exact ⟨s, rfl, rfl, hi, hidle⟩
  | cons b bytes ih =>
    rw [List.length_cons, run_succ (step_accepts (crcByte_op_ne_zero 0 b) hidle hi), crcFold_cons]
    exact ih rfl rfl

end Sys2Proof.Machine
end

section
/-! PROOF. The rules of 40_crc. -/

namespace Sys2Proof.Machine

/-- Settles O11: acceptance is the completion written out, as is the busy refusal. -/
theorem crcInitSetsAllOnes : Obligations.CrcInitSetsAllOnes :=
  ⟨by decide, fun ign _ hidle => exec_accepts (crcInit_op_ne_zero ign) hidle,
    fun ign _ hbusy => exec_busy (crcInit_op_ne_zero ign) hbusy⟩

/-- Settles O12: the clauses about the function are its definition, CRC_BYTE's is its acceptance, and a run of words is CRC_INIT's step
and then a fold. -/
theorem crcBytesComputeCrc16 : Obligations.CrcBytesComputeCrc16 := by
  refine ⟨fun _ => rfl, fun _ _ => rfl, fun _ => rfl, by decide +kernel,
    fun ign data _ hidle => exec_accepts (crcByte_op_ne_zero ign data) hidle, ?_⟩
  intro bytes rest s hidle hi
  rw [Nat.add_comm, run_succ (step_accepts (crcInit_op_ne_zero 0) hidle hi)]
  exact run_crcBytes rfl rfl

/-- Settles O13: the accumulator has finitely many values, so an injective step is onto. -/
theorem crcStreamsAndInverts : Obligations.CrcStreamsAndInverts := by
  have hfinite : Finite Half := .of_equiv _ BitVec.equivFin.toEquiv.symm
  exact ⟨rfl, crc16_append, fun b => Finite.injective_iff_bijective.1 (crcStep_injective b)⟩

/-- Settles O14. -/
theorem appendedCrcGivesZeroResidual : Obligations.AppendedCrcGivesZeroResidual := by
  intro s
  rw [← crcLo_eq, ← crcHi_eq]
  exact crc16_append_trailer s

/-- Settles O15: both frames valid, both would have the residual 0; the accumulators would then agree after the changed byte, and so
would the byte. -/
theorem singleByteErrorIsDetected : Obligations.SingleByteErrorIsDetected := by
  intro f i hi b hvalid hne
  refine Bool.eq_false_iff.2 fun hvalid' => hne ?_
  have hsame : crc16 (f.set i b) = crc16 (f.set i f[i]) := by
    rw [List.set_getElem_self, crc16_of_frameValid hvalid, crc16_of_frameValid hvalid']
  rw [crc16_set hi, crc16_set hi] at hsame
  exact crcStep_byte_injective _ (crcFold_injective _ hsame)

end Sys2Proof.Machine
end

section
/-! SUPPORT. The frame codec's data (41_frame_codec R170, R187, R191 to R193): a request written out byte by byte, the trailer test as
two bytes of the buffer, and registers and composites as numbers. -/

namespace Sys2Proof.Machine

/-! ### The request frame (R170) -/

theorem frameHeader_eq (a fc : Byte) (s n : Half) : frameHeader a fc s n =
    [a, fc, s.extractLsb' 8 8, s.extractLsb' 0 8, n.extractLsb' 8 8, n.extractLsb' 0 8] := by
  simp only [frameHeader, hiByte_eq, loByte_eq]

theorem crcTrailer_eq (c : Half) : crcTrailer c = [c.extractLsb' 0 8, c.extractLsb' 8 8] := by
  rw [crcTrailer, crcLo_eq, crcHi_eq]

theorem buildFrame_take_six (a fc : Byte) (s n : Half) : (buildFrame a fc s n).toList.take 6 = frameHeader a fc s n := rfl

theorem buildFrame_trailer (a fc : Byte) (s n : Half) :
    [(buildFrame a fc s n)[6], (buildFrame a fc s n)[7]] = crcTrailer (crc16 (frameHeader a fc s n)) := rfl

/-! ### The trailer test (R187) -/

theorem take_two_drop_eq_pair_iff {α : Type} (l : List α) (i : Nat) (x y : α) :
    (l.drop i).take 2 = [x, y] ↔ l[i]? = some x ∧ l[i + 1]? = some y := by
  have hfirst : l[i]? = (l.drop i)[0]? := by simp
  have hsecond : l[i + 1]? = (l.drop i)[1]? := by simp
  rw [hfirst, hsecond]
  rcases l.drop i with _ | ⟨a, _ | ⟨b, rest⟩⟩ <;> simp

theorem State.trailerOk_iff {s : State} (h : 2 ≤ s.rx.rxWant.toNat) :
    s.trailerOk = true ↔ s.rx.rxbuf.toList[s.rx.rxWant.toNat - 2]? = some (s.frameCrc.extractLsb' 0 8) ∧
      s.rx.rxbuf.toList[s.rx.rxWant.toNat - 1]? = some (s.frameCrc.extractLsb' 8 8) := by
  have hlast : s.rx.rxWant.toNat - 1 = s.rx.rxWant.toNat - 2 + 1 := by omega
  rw [State.trailerOk, beq_iff_eq, crcTrailer_eq, take_two_drop_eq_pair_iff, hlast]

/-- check_E() with its test on the two bytes before rx_want (R187). -/
theorem State.checkE_eq {s : State} (h : 2 ≤ s.rx.rxWant.toNat) : s.checkE =
    if s.rx.rxbuf.toList[s.rx.rxWant.toNat - 2]? = some (s.frameCrc.extractLsb' 0 8) ∧
      s.rx.rxbuf.toList[s.rx.rxWant.toNat - 1]? = some (s.frameCrc.extractLsb' 8 8) then
      State.rxDone { s with crc := s.frameCrc, rx := { s.rx with rxOk := true } } .ok 0 0
    else State.rxDone { s with crc := s.frameCrc } .checksumError 0 0 := if_congr (State.trailerOk_iff h) rfl rfl

/-- Phase E's test is the validity of the frame in the buffer (R121, R187). -/
theorem State.trailerOk_eq_frameValid {s : State} (h2 : 2 ≤ s.rx.rxWant.toNat) (h21 : s.rx.rxWant.toNat ≤ 21) :
    s.trailerOk = frameValid s.frame := by
  have hlen : s.rx.rxWant.toNat ≤ s.rx.rxbuf.toList.length := by simpa using h21
  have hlast : s.rx.rxWant.toNat - (s.rx.rxWant.toNat - 2) = 2 := by omega
  simp only [State.trailerOk, State.frameCrc, frameValid, State.frame, List.length_take_of_le hlen, List.take_take,
    List.drop_take, hlast, Nat.min_eq_left (Nat.sub_le _ 2), h2, decide_true, Bool.true_and]

/-! ### Registers and composites (R78, R79) -/

/-- Two values side by side in one of twice their width: shifted by a whole width, the first leaves the second's bits free. -/
theorem setWidth_shiftLeft_or_toNat {w : Nat} (high low : BitVec w) :
    ((high.setWidth (w + w) <<< w) ||| low.setWidth (w + w)).toNat = high.toNat * 2 ^ w + low.toNat := by
  have hwide (v : BitVec w) : (v.setWidth (w + w)).toNat = v.toNat := BitVec.toNat_setWidth_of_le (Nat.le_add_left w w)
  have hshift : high.toNat * 2 ^ w < 2 ^ (w + w) := by
    rw [pow_add]
    exact Nat.mul_lt_mul_of_pos_right high.isLt (Nat.two_pow_pos w)
  rw [BitVec.toNat_or, BitVec.toNat_shiftLeft, hwide, hwide, Nat.shiftLeft_eq, Nat.mod_eq_of_lt hshift, ← Nat.shiftLeft_eq,
    Nat.shiftLeft_add_eq_or_of_lt low.isLt]

theorem reg_toNat (b : Vector Byte 21) (i : Fin 8) :
    (reg b i).toNat = b[3 + 2 * i.val].toNat * 2 ^ 8 + b[4 + 2 * i.val].toNat := setWidth_shiftLeft_or_toNat ..

theorem composite_toNat (low high : Half) : (composite low high).toNat = high.toNat * 2 ^ 16 + low.toNat := by
  rw [composite, BitVec.or_comm]
  exact setWidth_shiftLeft_or_toNat ..

/-- A composite from the wire: the register received second is the high half (R193). -/
theorem composite_reg_toNat (b : Vector Byte 21) (i j : Fin 8) : (composite (reg b i) (reg b j)).toNat =
    b[3 + 2 * j.val].toNat * 2 ^ 24 + b[4 + 2 * j.val].toNat * 2 ^ 16 + b[3 + 2 * i.val].toNat * 2 ^ 8 +
      b[4 + 2 * i.val].toNat := by
  rw [composite_toNat, reg_toNat, reg_toNat]
  omega

/-! ### The record's values (R192, R193) -/

theorem scaled_range {n m : Nat} (h : n ≤ m) {d : Rat} (hd : 0 < d) : (0 : Rat) ≤ n / d ∧ (n : Rat) / d ≤ m / d :=
  ⟨by positivity, by gcongr⟩

end Sys2Proof.Machine
end

section
/-! SUPPORT. Acceptance of the frame codec's commands (41_frame_codec R180, R190, R198): when a command is refused, and its refusal
written out. -/

namespace Sys2Proof.Machine

/-- A command refused in its acceptance step is latched and completes with CMD_REFUSED under its own OP (R19). -/
theorem State.refuse_latch (s : State) (i : Instr) :
    (s.latch (encode i)).refuse = Claims.completed (Claims.accepted s (encode i)) i.op .cmdRefused 0 0 := by
  rw [State.refuse, State.latch_cur, encode_op]
  rfl

/-- A command with a test for refusal, presented at IDLE: its own effect where the test says no, else the refusal (R19, R110). -/
theorem exec_runs_or_refuses {i : Instr} {s u : State} {P : Prop} {refuses : Bool} (hop : i.op ≠ 0) (hidle : s.ctl = .idle)
    (hacc : acceptance i (s.latch (encode i)) = if refuses then (s.latch (encode i)).refuse else u)
    (hrefuses : refuses = false ↔ P) :
    (P → exec i s = .next u) ∧
      (¬P → exec i s = .next (Claims.completed (Claims.accepted s (encode i)) i.op .cmdRefused 0 0)) := by
  rw [exec_accepts hop hidle, hacc, State.refuse_latch, ← hrefuses]
  cases refuses <;> simp

theorem State.rxBegin_eq_begun (s : State) (n : Half) : s.rxBegin n = Claims.begun s n.toNat := by
  simp only [State.rxBegin, Claims.begun, BitVec.ofNat_toNat, wantLen_eq]

end Sys2Proof.Machine
end

section
/-! SUPPORT. The receiver's sites as steps (41_frame_codec R183 to R187): the transaction served and what the phase does with the
answer. -/

namespace Sys2Proof.Machine

section
variable {s : State} {rest : List Event}

theorem step_served {a : Answer} {x : Transaction} (hi : s.inputs = .answer a :: rest) (hr : s.request = some x) :
    step s = (Claims.served s rest x).resume a := by
  have hissue : State.issue { s with inputs := rest } x = Claims.served s rest x := rfl
  rw [step_site hi hr, hissue]

theorem step_raDelay (hc : s.ctl = .raDelay) (hi : s.inputs = .answer .done :: rest) :
    step s = .next ((Claims.served s rest (.delay s.params.interval1)).tick .raAvail) :=
  (step_served hi (State.request_raDelay hc)).trans (State.resume_raDelay (s := Claims.served s rest _) hc _)

theorem step_raAvail {n : Nat} (hc : s.ctl = .raAvail) (hi : s.inputs = .answer (.count n) :: rest) :
    step s = .next ((Claims.served s rest .bytesAvailable).raAvailed n) :=
  (step_served hi (State.request_raAvail hc)).trans (State.resume_raAvail (s := Claims.served s rest _) hc _)

theorem step_rbRead {r : List Byte} (hc : s.ctl = .rbRead) (hi : s.inputs = .answer (.bytes r) :: rest)
    (hr : r.length ≤ s.excMissing) : step s = .next ((Claims.served s rest (.read s.excMissing)).rbGot r) :=
  (step_served hi (State.request_rbRead hc)).trans ((State.resume_rbRead (s := Claims.served s rest _) hc _).trans (if_pos hr))

theorem step_rcDelay (hc : s.ctl = .rcDelay) (hi : s.inputs = .answer .done :: rest) :
    step s = .next ((Claims.served s rest (.delay s.params.interval2)).tick .rcAvail) :=
  (step_served hi (State.request_rcDelay hc)).trans (State.resume_rcDelay (s := Claims.served s rest _) hc _)

theorem step_rcAvail {n : Nat} (hc : s.ctl = .rcAvail) (hi : s.inputs = .answer (.count n) :: rest) :
    step s = .next ((Claims.served s rest .bytesAvailable).setAvail n).checkC :=
  (step_served hi (State.request_rcAvail hc)).trans (State.resume_rcAvail (s := Claims.served s rest _) hc _)

theorem step_rdRead {r : List Byte} (hc : s.ctl = .rdRead) (hi : s.inputs = .answer (.bytes r) :: rest)
    (hr : r.length ≤ s.missing) : step s = .next ((Claims.served s rest (.read s.missing)).rdGot r) :=
  (step_served hi (State.request_rdRead hc)).trans ((State.resume_rdRead (s := Claims.served s rest _) hc _).trans (if_pos hr))

end

/-! ### Storing the bytes of a read (R184, R186) -/

/-- rx_len after a read, as the one number the spec writes. -/
theorem State.storeBytes_eq (s : State) (r : List Byte) :
    s.storeBytes r = { s with rx := { s.rx with
      rxbuf := writeBytes s.rx.rxbuf s.rx.rxLen.toNat r, rxLen := BitVec.ofNat 8 (s.rx.rxLen.toNat + r.length) } } := by
  rw [State.storeBytes, BitVec.ofNat_add, BitVec.ofNat_toNat, BitVec.setWidth_eq]

section
variable {s : State} {r : List Byte}

/-- In a buffer of 21 bytes rx_len does not overflow. -/
theorem State.storeBytes_rxLen_toNat_of_fits (h : s.rx.rxLen.toNat + r.length ≤ 21) :
    (s.storeBytes r).rx.rxLen.toNat = s.rx.rxLen.toNat + r.length := by
  rw [State.storeBytes_eq]
  exact Nat.mod_eq_of_lt (h.trans_lt (by decide))

theorem State.rbGot_eq (h : s.rx.rxLen.toNat + r.length ≤ 21) : s.rbGot r =
    if r.length = 0 then s.rxDone .partialFrame s.rx.rxLen s.rx.rxWant
    else if s.rx.rxLen.toNat + r.length < 5 then (s.storeBytes r).goto .rbRead
    else if (s.storeBytes r).rx.rxbuf[1].getLsbD 7 then (s.storeBytes r).rxDone .deviceException (s.storeBytes r).rx.rxbuf[2] 0
    else ((s.storeBytes r).setAvail 0).enterC := by
  rw [← State.storeBytes_rxLen_toNat_of_fits h]
  exact if_congr List.length_eq_zero_iff.symm rfl rfl

theorem State.rdGot_eq (h : s.rx.rxLen.toNat + r.length ≤ 21) : s.rdGot r =
    if r.length = 0 then s.rxDone .partialFrame s.rx.rxLen s.rx.rxWant
    else if s.rx.rxLen.toNat + r.length < s.rx.rxWant.toNat then (s.storeBytes r).goto .rdRead
    else (s.storeBytes r).checkE := by
  rw [← State.storeBytes_rxLen_toNat_of_fits h]
  exact if_congr List.length_eq_zero_iff.symm rfl rfl

/-- The bytes received so far: rxbuf[0 .. rx_len − 1] (R36). -/
def State.received (s : State) : List Byte := s.rx.rxbuf.toList.take s.rx.rxLen.toNat

theorem State.storeBytes_received (h : s.rx.rxLen.toNat + r.length ≤ 21) : (s.storeBytes r).received = s.received ++ r := by
  rw [State.received, State.storeBytes_rxLen_toNat_of_fits h, State.storeBytes_rx, writeBytes_toList r _ _ h]
  exact List.take_left' (by simp; omega)

end

end Sys2Proof.Machine
end

section
/-! PROOF. The single steps of the frame codec (41_frame_codec R170 to R193, R198). -/

namespace Sys2Proof.Machine

/-- Settles O17: a request's trailer is its header's CRC, and appending it leaves the residual 0. -/
theorem builtFrameValidates : Obligations.BuiltFrameValidates := by
  intro a fc s n
  refine ⟨crc16_append_trailer (frameHeader a fc s n), ?_⟩
  rw [buildFrame_trailer, buildFrame_take_six, crcTrailer_eq]

/-- Settles O20: the four ways of going on are RB_READ's continuation, over the buffer with the read's bytes in place. -/
theorem exceptionTest : Obligations.ExceptionTest := by
  intro s rest r hc hi hlen hr
  have hfits : s.rx.rxLen.toNat + r.length ≤ 21 := by omega
  have hgot := State.rbGot_eq (s := Claims.served s rest (.read s.excMissing)) hfits
  rw [State.storeBytes_eq] at hgot
  exact ⟨writeBytes s.rx.rxbuf s.rx.rxLen.toNat r, writeBytes_toList r _ _ hfits,
    (step_rbRead hc hi hr).trans (congrArg _ hgot)⟩

/-- Settles O22: RD_READ's continuation over the buffer with the read's bytes in place; the trailer test is its two bytes. -/
theorem readToCompletion : Obligations.ReadToCompletion := by
  intro s rest r hc hi hlen h7 h21 hr
  have hfits : s.rx.rxLen.toNat + r.length ≤ 21 := by omega
  have hgot := State.rdGot_eq (s := Claims.served s rest (.read s.missing)) hfits
  rw [State.checkE_eq (s := (Claims.served s rest (.read s.missing)).storeBytes r) (le_trans (by decide) h7),
    State.storeBytes_eq] at hgot
  exact ⟨writeBytes s.rx.rxbuf s.rx.rxLen.toNat r, writeBytes_toList r _ _ hfits,
    (step_rdRead hc hi hr).trans (congrArg _ hgot)⟩

/-- Settles O27: each composite is two registers, each register two bytes; the scales divide what multiplies them back. -/
theorem recordComposition : Obligations.RecordComposition := by
  intro b
  have hhalf (v : Half) : v.toNat ≤ 65535 := Nat.le_of_lt_succ v.isLt
  have hword (v : Word) : v.toNat ≤ 4294967295 := Nat.le_of_lt_succ v.isLt
  refine ⟨reg_toNat b 0, reg_toNat b 1, composite_reg_toNat b 2 3, composite_reg_toNat b 4 5,
    div_mul_cancel₀ _ (by norm_num), div_mul_cancel₀ _ (by norm_num), div_mul_cancel₀ _ (by norm_num), rfl, ?_, ?_, ?_, ?_⟩
  · exact_mod_cast scaled_range (hhalf _) (d := 100) (by norm_num)
  · exact_mod_cast scaled_range (hhalf _) (d := 100) (by norm_num)
  · exact_mod_cast scaled_range (hword _) (d := 10) (by norm_num)
  · exact ⟨Nat.cast_nonneg _, Nat.cast_le_ofNat.2 (hword _)⟩

/-- Settles O16: acceptance loads the frame, whose bytes are the header's and its CRC's. -/
theorem buildWritesFrame : Obligations.BuildWritesFrame := by
  intro addr fc start count ign s hidle
  dsimp only
  rw [← frameHeader_eq, ← crcTrailer_eq]
  exact ⟨buildFrame addr fc start count, buildFrame_toList addr fc start count,
    exec_accepts (by decide : (0x10 : Byte) ≠ 0) hidle⟩

/-- Settles O18: past the test a reception begins. -/
theorem receiveStartsReception : Obligations.ReceiveStartsReception := by
  intro ignHi count ignLo s hidle
  refine exec_runs_or_refuses (i := .receive ignHi count ignLo) (by decide : (0x12 : Byte) ≠ 0) hidle ?_
    (State.refusesCount_false _ count)
  rw [acceptance, State.rxBegin_eq_begun]
  rfl

/-- Settles O19: the two sites of phase A, each as one step. -/
theorem firstArrivalWait : Obligations.FirstArrivalWait :=
  ⟨fun _ _ hc hi => step_raDelay hc hi, fun _ _ _ hc hi => step_raAvail hc hi⟩

/-- Settles O21: the two procedures are their definitions, the two sites of phase C one step each. -/
theorem completionWait : Obligations.CompletionWait :=
  ⟨fun _ => rfl, fun _ => rfl, fun _ _ hc hi => step_rcDelay hc hi, fun _ _ _ hc hi => step_rcAvail hc hi⟩

/-- Settles O23: one line per user of a reception; the sequencer's splits on the code. -/
theorem receptionEndings : Obligations.ReceptionEndings := by
  intro s code a b
  refine ⟨fun hm hop => State.rxDone_receive hm hop code a b, fun hm hop => State.rxDone_read hm hop code a b,
    fun hm hok => ?_, fun hm hne => ?_⟩
  · exact (State.rxDone_poll hm code a b).trans (if_pos hok)
  · exact (State.rxDone_poll hm code a b).trans (if_neg hne)

/-- Settles O26: past the test the record is decoded. -/
theorem decodeWritesRecord : Obligations.DecodeWritesRecord := fun ign s hidle =>
  exec_runs_or_refuses (i := .decode ign) (by decide : (0x13 : Byte) ≠ 0) hidle rfl
    (s.latch (encode (.decode ign))).refusesDecode_false

/-- Settles O28: past the test the request is loaded and its write begins. -/
theorem readBuildsRequest : Obligations.ReadBuildsRequest := fun addr ignFc start count ignData s hidle =>
  exec_runs_or_refuses (i := .read addr ignFc start count ignData) (by decide : (0x14 : Byte) ≠ 0) hidle rfl
    ((s.latch _).refusesCount_false count)

end Sys2Proof.Machine
end

section
/-! SUPPORT. Runs of the receiver over several answers (41_frame_codec R183 to R187): polls of phase A, the reads of a frame, and the
check that ends them. -/

namespace Sys2Proof.Machine

section
variable {s : State} {rest : List Event}

/-! ### One poll of phase A (R183) -/

/-- The Delay and the count answered, and the count in avail: what phase A goes on from. -/
def State.afterPoll (s : State) (n : Nat) (rest : List Event) : State :=
  { s with
    avail := n
    k := s.k + 1
    ctl := .raAvail
    inputs := rest
    transactions := s.transactions ++ [.delay s.params.interval1, .bytesAvailable] }

theorem run_poll {n : Nat} (hc : s.ctl = .raDelay) (hi : s.inputs = .answer .done :: .answer (.count n) :: rest) (k : Nat) :
    Host.Core.run core (k + 2) s = Host.Core.run core k ((s.afterPoll n rest).raAvailed n) := by
  have hserved : ((Claims.served ((Claims.served s (.answer (.count n) :: rest) (.delay s.params.interval1)).tick .raAvail) rest
      .bytesAvailable).setAvail n) = s.afterPoll n rest := by
    simp [Claims.served, State.tick, State.setAvail, State.afterPoll]
  rw [run_succ (step_raDelay hc hi), run_succ (step_raAvail rfl rfl), ← hserved]
  rfl

/-! ### Phase A without a byte (R183, R189 row 1) -/

theorem State.raAvailed_zero (s : State) : s.raAvailed 0 =
    if s.k = s.params.wait1Iters then (s.setAvail 0).rxDone .noResponse 0 0 else (s.setAvail 0).goto .raDelay := by
  rw [State.raAvailed, if_neg (Nat.lt_irrefl 0)]
  rfl

/-- After `n` polls that saw no byte, the budget not tested yet. -/
def State.afterEmptyPolls (s : State) (n : Nat) (rest : List Event) : State :=
  { s with
    avail := 0
    k := s.k + n
    ctl := .raAvail
    inputs := rest
    transactions := s.transactions ++ (List.replicate n [.delay s.params.interval1, .bytesAvailable]).flatten }

theorem State.afterEmptyPolls_add (s : State) (m n : Nat) (mid rest : List Event) :
    ((s.afterEmptyPolls m mid).goto .raDelay).afterEmptyPolls n rest = s.afterEmptyPolls (m + n) rest := by
  simp only [State.afterEmptyPolls, State.goto, Nat.add_assoc, List.append_assoc, List.replicate_add, List.flatten_append]

theorem run_emptyPoll (hc : s.ctl = .raDelay) (hi : s.inputs = .answer .done :: .answer (.count 0) :: rest) (k : Nat) :
    Host.Core.run core (k + 2) s = Host.Core.run core k (
      if s.k + 1 = s.params.wait1Iters then (s.afterEmptyPolls 1 rest).rxDone .noResponse 0 0
      else (s.afterEmptyPolls 1 rest).goto .raDelay) :=
  (run_poll hc hi k).trans (congrArg (Host.Core.run core k) (State.raAvailed_zero (s.afterPoll 0 rest)))

/-- Polls up to the budget, at least one, end the reception, whoever it belongs to. -/
theorem run_emptyPolls (n : Nat) (hc : s.ctl = .raDelay) (hk : s.k + (n + 1) = s.params.wait1Iters)
    (hi : s.inputs = pollAnswers (List.replicate (n + 1) 0) ++ rest) :
    Host.Core.run core (2 * (n + 1)) s = .next ((s.afterEmptyPolls (n + 1) rest).rxDone .noResponse 0 0) := by
  induction n generalizing s with
  | zero => exact (run_emptyPoll (rest := rest) hc hi 0).trans (congrArg Host.Outcome.next (if_pos hk))
  | succ n ih =>
    have hmore : s.k + 1 ≠ s.params.wait1Iters := by omega
    have hpoll := run_emptyPoll (rest := pollAnswers (List.replicate (n + 1) 0) ++ rest) hc hi (2 * (n + 1))
    have hpolls := ih (s := (s.afterEmptyPolls 1 (pollAnswers (List.replicate (n + 1) 0) ++ rest)).goto .raDelay) rfl
      (show s.k + 1 + (n + 1) = s.params.wait1Iters by omega) rfl
    rw [State.afterEmptyPolls_add, Nat.add_comm 1] at hpolls
    exact hpoll.trans ((congrArg (Host.Core.run core _) (if_neg hmore)).trans hpolls)

/-! ### A frame reported whole (R185 to R187, R189 rows 5 and 6) -/

/-- Enough bytes at the first poll: phase C is complete as it is entered (R183, R185). -/
theorem State.raAvailed_enough {n : Nat} (h5 : 5 < n) (hn : s.rx.rxWant.toNat ≤ s.rx.rxLen.toNat + n) :
    s.raAvailed n = State.goto { s.setAvail n with k := 0 } .rdRead :=
  (if_pos (Nat.zero_lt_of_lt h5)).trans ((if_neg (Nat.ne_of_gt h5)).trans (if_pos hn))

/-- At RD_READ with `b` in rxbuf, received whole (R186). -/
def State.holding (s : State) (b : Vector Byte 21) (rest : List Event) (issued : List Transaction) : State :=
  { s with
    rx := { s.rx with rxbuf := b, rxLen := s.rx.rxWant }
    ctl := .rdRead
    inputs := rest
    transactions := issued }

/-- After a read at RD_READ that leaves the frame short (R186). -/
def State.afterShortRead (s : State) (r : List Byte) (rest : List Event) : State :=
  ((Claims.served s rest (.read s.missing)).storeBytes r).goto .rdRead

theorem State.afterShortRead_rxLen_toNat {r : List Byte} (h : s.rx.rxLen.toNat + r.length ≤ 21) :
    (s.afterShortRead r rest).rx.rxLen.toNat = s.rx.rxLen.toNat + r.length :=
  State.storeBytes_rxLen_toNat_of_fits (s := Claims.served s rest (.read s.missing)) h

theorem State.afterShortRead_received {r : List Byte} (h : s.rx.rxLen.toNat + r.length ≤ 21) :
    (s.afterShortRead r rest).received = s.received ++ r :=
  State.storeBytes_received (s := Claims.served s rest (.read s.missing)) h

theorem step_shortRead {r : List Byte} (hc : s.ctl = .rdRead) (hi : s.inputs = .answer (.bytes r) :: rest) (hr : r ≠ [])
    (hlen : s.rx.rxLen.toNat + r.length < s.rx.rxWant.toNat) (h21 : s.rx.rxWant.toNat ≤ 21) :
    step s = .next (s.afterShortRead r rest) := by
  have hgot := State.rdGot_eq (s := Claims.served s rest (.read s.missing)) (hlen.le.trans h21)
  rw [if_neg (mt List.length_eq_zero_iff.1 hr)] at hgot
  exact (step_rdRead hc hi (Nat.le_sub_of_add_le' hlen.le)).trans (congrArg _ (hgot.trans (if_pos hlen)))

/-- A nonempty read that brings the last byte: phase E in the same step (R186, R187). -/
theorem step_lastRead {r : List Byte} (hc : s.ctl = .rdRead) (hi : s.inputs = .answer (.bytes r) :: rest) (hr : r ≠ [])
    (hlen : s.rx.rxLen.toNat + r.length = s.rx.rxWant.toNat) (h21 : s.rx.rxWant.toNat ≤ 21) :
    step s = .next (s.holding (s.storeBytes r).rx.rxbuf rest (s.transactions ++ [.read s.missing])).checkE := by
  have hgot := State.rdGot_eq (s := Claims.served s rest (.read s.missing)) (hlen.le.trans h21)
  have hwhole : (Claims.served s rest (.read s.missing)).storeBytes r =
      s.holding (s.storeBytes r).rx.rxbuf rest (s.transactions ++ [.read s.missing]) := by
    rw [State.storeBytes_eq, State.holding, ← hc, ← BitVec.setWidth_eq s.rx.rxWant, ← BitVec.ofNat_toNat, ← hlen]
    rfl
  rw [if_neg (mt List.length_eq_zero_iff.1 hr), hwhole] at hgot
  exact (step_rdRead hc hi (Nat.le_sub_of_add_le' hlen.le)).trans
    (congrArg _ (hgot.trans (if_neg (Nat.not_lt.2 hlen.ge))))

theorem State.holding_storeBytes_frame {r : List Byte} (h : s.rx.rxLen.toNat + r.length = s.rx.rxWant.toNat)
    (h21 : s.rx.rxWant.toNat ≤ 21) (issued : List Transaction) :
    (s.holding (s.storeBytes r).rx.rxbuf rest issued).frame = s.received ++ r := by
  have hfits : s.rx.rxLen.toNat + r.length ≤ 21 := h.le.trans h21
  rw [← State.storeBytes_received hfits, State.received, State.storeBytes_rxLen_toNat_of_fits hfits, h]
  rfl

/-- Nonempty reads that make up the rest of the frame end in phase E, the bytes in rxbuf in the order read: while a nonempty read is
still to come the frame is short, and the last one brings the last byte. -/
theorem run_reads {chunks : List (List Byte)} (hc : s.ctl = .rdRead) (hne : ∀ c ∈ chunks, c ≠ [])
    (hlt : s.rx.rxLen.toNat < s.rx.rxWant.toNat) (h21 : s.rx.rxWant.toNat ≤ 21)
    (hlen : s.rx.rxLen.toNat + chunks.flatten.length = s.rx.rxWant.toNat)
    (hi : s.inputs = (chunks.map fun c => .answer (.bytes c)) ++ rest) :
    ∃ b issued, Host.Core.run core chunks.length s = .next (s.holding b rest issued).checkE ∧
      (s.holding b rest issued).frame = s.received ++ chunks.flatten := by
  induction chunks generalizing s with
  | nil => exact absurd hlen (Nat.ne_of_lt hlt)
  | cons c chunks ih =>
    obtain ⟨hc0, hne⟩ := List.forall_mem_cons.1 hne
    rw [List.flatten_cons, List.length_append, ← Nat.add_assoc] at hlen
    cases chunks with
    | nil =>
      rw [List.flatten_singleton]
      exact ⟨_, _, run_succ (step_lastRead hc hi hc0 hlen h21) 0, State.holding_storeBytes_frame hlen h21 _⟩
    | cons d ds =>
      have hmore : s.rx.rxLen.toNat + c.length < s.rx.rxWant.toNat := by
        have hd := List.length_pos_iff.2 (hne d List.mem_cons_self)
        rw [List.flatten_cons, List.length_append] at hlen
        omega
      have hfits := hmore.le.trans h21
      have hstored := State.afterShortRead_rxLen_toNat (rest := ((d :: ds).map fun c => .answer (.bytes c)) ++ rest) hfits
      obtain ⟨b, issued, hrun, hframe⟩ := ih rfl hne (hstored.trans_lt hmore) h21 ((congrArg (· + _) hstored).trans hlen) rfl
      rw [State.afterShortRead_received hfits, List.append_assoc, ← List.flatten_cons] at hframe
      exact ⟨b, issued, (run_succ (step_shortRead hc hi hc0 hmore h21) _).trans hrun, hframe⟩

/-- A frame of the wanted length, reported whole at the first poll and read in any pieces, comes to phase E whole. -/
theorem run_wholeFrame {n : Nat} {chunks : List (List Byte)} (hc : s.ctl = .raDelay) (hlen : s.rx.rxLen = 0)
    (h7 : 7 ≤ s.rx.rxWant.toNat) (h21 : s.rx.rxWant.toNat ≤ 21) (hn : s.rx.rxWant.toNat ≤ n) (hne : ∀ c ∈ chunks, c ≠ [])
    (htotal : chunks.flatten.length = s.rx.rxWant.toNat)
    (hi : s.inputs = .answer .done :: .answer (.count n) :: ((chunks.map fun c => .answer (.bytes c)) ++ rest)) :
    ∃ b issued,
      Host.Core.run core (chunks.length + 2) s = .next (State.holding { s with avail := n, k := 0 } b rest issued).checkE ∧
      (State.holding { s with avail := n, k := 0 } b rest issued).frame = chunks.flatten := by
  have hempty : s.rx.rxLen.toNat = 0 := congrArg BitVec.toNat hlen
  have hnone : s.received = [] := by rw [State.received, hempty, List.take_zero]
  have hpoll := (run_poll hc hi chunks.length).trans (congrArg (Host.Core.run core _)
    (State.raAvailed_enough (s := s.afterPoll n _) (Nat.lt_of_lt_of_le (by decide) (h7.trans hn)) (Nat.le_add_left_of_le hn)))
  obtain ⟨b, issued, hreads, hframe⟩ := run_reads (rest := rest)
    (s := State.goto { s.afterPoll n ((chunks.map fun c => .answer (.bytes c)) ++ rest) with k := 0 } .rdRead) rfl hne
    (show s.rx.rxLen.toNat < s.rx.rxWant.toNat by omega) h21 (show s.rx.rxLen.toNat + _ = s.rx.rxWant.toNat by omega) rfl
  exact ⟨b, issued, hpoll.trans hreads, hframe.trans (congrArg (· ++ chunks.flatten) hnone)⟩

/-- Phase E of a RECEIVE, as one completion: rx_ok and the code follow the frame's validity (R187, R188). -/
theorem State.checkE_receive (hm : s.mode = .cmd) (hop : s.cur.op = 0x12) (h2 : 2 ≤ s.rx.rxWant.toNat)
    (h21 : s.rx.rxWant.toNat ≤ 21) (hok : s.rx.rxOk = false) :
    s.checkE = State.complete { s with crc := s.frameCrc, rx := { s.rx with rxOk := frameValid s.frame } } 0x12
      (if frameValid s.frame then .ok else .checksumError) 0 0 := by
  rw [State.checkE, State.trailerOk_eq_frameValid h2 h21]
  cases frameValid s.frame with
  | true => exact State.rxDone_receive (s := { s with crc := s.frameCrc, rx := { s.rx with rxOk := true } }) hm hop .ok 0 0
  | false =>
    have hrx : { s.rx with rxOk := false } = s.rx := by rw [← hok]
    rw [hrx]
    exact State.rxDone_receive (s := { s with crc := s.frameCrc }) hm hop .checksumError 0 0

theorem State.frameCrc_eq (s : State) : s.frameCrc = crc16 (s.frame.take (s.rx.rxWant.toNat - 2)) := by
  rw [State.frameCrc, State.frame, List.take_take, Nat.min_eq_left (Nat.sub_le _ 2)]

end

end Sys2Proof.Machine
end

section
/-! PROOF. Whole receptions (41_frame_codec R189). -/

namespace Sys2Proof.Machine

/-- Settles O24: the budget's polls in a row, then RECEIVE's ending. -/
theorem noResponseAfterBudget : Obligations.NoResponseAfterBudget := by
  intro s rest hc hk hbudget hm hop hi
  obtain ⟨n, hn⟩ : ∃ n, s.params.wait1Iters = n + 1 := Nat.exists_eq_succ_of_ne_zero (by omega)
  rw [hn] at hi ⊢
  refine ⟨_, run_emptyPolls n hc (by omega) hi, ?_⟩
  refine (State.rxDone_receive (s := s.afterEmptyPolls (n + 1) rest) hm hop .noResponse 0 0).trans ?_
  rw [State.afterEmptyPolls, hk, Nat.zero_add]
  rfl

/-- Settles O25: the frame comes to phase E whole, which checks it and completes RECEIVE. -/
theorem wholeFrameIsClassified : Obligations.WholeFrameIsClassified := by
  intro s rest n chunks hc hm hop hlen hok h7 h21 hn hne htotal hi
  rw [List.append_assoc] at hi
  rw [Nat.add_comm]
  obtain ⟨b, issued, hrun, hframe⟩ := run_wholeFrame hc hlen h7 h21 hn hne htotal hi
  have hcrc := State.frameCrc_eq (State.holding { s with avail := n, k := 0 } b rest issued)
  have hend := State.checkE_receive (s := State.holding { s with avail := n, k := 0 } b rest issued) hm hop
    (le_trans (by decide) h7) h21 hok
  rw [hframe] at hcrc hend
  exact ⟨_, hrun.trans (congrArg _ hend), hframe, rfl, hcrc, rfl, rfl, rfl, rfl, rfl, rfl, rfl, rfl⟩

end Sys2Proof.Machine
end

section
/-! PROOF. The writers of the Configuration register over all steps (10_state R46, 42_link R223). -/

namespace Sys2Proof.Machine

@[simp] theorem State.linkOpened_cfg (s : State) (r : Status) : (s.linkOpened r).cfg = s.cfg := by cases r <;> rfl
@[simp] theorem State.linkConfigured_cfg (s : State) (r : Status) : (s.linkConfigured r).cfg =
    if r = .ok then ⟨s.cur.framing, s.cur.driver, s.cur.addr, 0, true⟩ else s.cfg := by cases r <;> rfl
@[simp] theorem State.linkDiscarded_cfg (s : State) : s.linkDiscarded.cfg = s.cfg := rfl
@[simp] theorem State.writeDone_cfg (s : State) (r : Status) : (s.writeDone r).cfg = s.cfg := by
  unfold State.writeDone; (repeat' split) <;> simp
@[simp] theorem State.sessionOpened_cfg (s : State) (r : Status) : (s.sessionOpened r).cfg = s.cfg := by cases r <;> rfl
@[simp] theorem State.advance_cfg (s : State) : s.advance.cfg = s.cfg := by unfold State.advance; split <;> simp
@[simp] theorem State.probeConfigured_cfg (s : State) (c : Candidate) (r : Status) : (s.probeConfigured c r).cfg = s.cfg := by
  cases r <;> simp [State.probeConfigured]
@[simp] theorem State.probeWritten_cfg (s : State) (r : Status) : (s.probeWritten r).cfg = s.cfg := by
  cases r <;> simp [State.probeWritten]
@[simp] theorem State.probeAvailed_cfg (s : State) (c : Candidate) (n : Nat) : (s.probeAvailed c n).cfg =
    if s.params.probeMinBytes ≤ n then ⟨c.f, c.driver, c.address, s.ci, true⟩ else s.cfg := by
  unfold State.probeAvailed
  dsimp only
  split
  · exact (if_pos ‹_›).symm
  · refine .trans ?_ (if_neg ‹_›).symm
    split <;> simp

@[simp] theorem acceptance_cfg (i : Instr) (s : State) : (acceptance i s).cfg = s.cfg := by
  cases i
  case nop | crcInit | crcByte | build => simp [acceptance]
  case send | receive | decode | read | linkOpen | linkConfig | linkDiscard | discStart =>
    simp only [acceptance]
    split <;> simp

@[simp] theorem State.offerReserved_cfg (s : State) (w : CommandWord) : (s.offerReserved w).cfg = s.cfg := by
  unfold State.offerReserved State.offer; split <;> simp

variable {s t : State}

theorem exec_keeps_cfg {i : Instr} (h : exec i s = .next t) : t.cfg = s.cfg := by
  rw [exec_eq, Host.Outcome.next.injEq] at h
  rw [← h]
  split
  · rfl
  · split <;> simp

/-- Of the transaction sites only L_CONF and Q_AVAIL write the register: the one on Ok, from the latched operands, the other on a
plausible count, from the candidate (R214, R241). -/
theorem resume_cfg {a : Answer} (h : s.resume a = .next t) :
    t.cfg = s.cfg ∨
    (s.ctl = .lConf ∧ a = .status .ok ∧ t.cfg = ⟨s.cur.framing, s.cur.driver, s.cur.addr, 0, true⟩) ∨
    (s.ctl = .qAvail ∧ (∃ n, a = .count n ∧ s.params.probeMinBytes ≤ n) ∧
      ∃ c, s.candidate = some c ∧ t.cfg = ⟨c.f, c.driver, c.address, s.ci, true⟩) := by
  rcases resume_cases h with ⟨r, -, -, rfl⟩ | ⟨r, hc, rfl, rfl⟩ | ⟨-, -, rfl⟩ | ⟨-, -, rfl⟩ | ⟨r, -, -, rfl⟩ | ⟨-, -, rfl⟩ |
    ⟨n, -, -, rfl⟩ | ⟨r, -, -, -, rfl⟩ | ⟨-, -, rfl⟩ | ⟨n, -, -, rfl⟩ | ⟨r, -, -, -, rfl⟩ | ⟨r, -, -, rfl⟩ |
    ⟨c, r, -, -, -, rfl⟩ | ⟨-, -, rfl⟩ | ⟨r, -, -, rfl⟩ | ⟨-, -, rfl⟩ | ⟨c, n, hc, hcand, rfl, rfl⟩ | ⟨-, -, rfl⟩ | ⟨-, -, rfl⟩
  on_goal 17 => -- Q_AVAIL
    by_cases hn : s.params.probeMinBytes ≤ n
    · exact .inr <| .inr ⟨hc, ⟨n, rfl, hn⟩, c, hcand, by simp [hn]⟩
    · exact .inl (by simp [hn])
  on_goal 2 => -- L_CONF
    cases r with
    | ok => exact .inr <| .inl ⟨hc, rfl, by simp⟩
    | err => exact .inl (by simp)
  all_goals exact .inl (by simp)

/-- Settles O45: presented words and the internal step leave the register; an answer writes it at L_CONF or Q_AVAIL only. -/
theorem configurationWriters : Obligations.ConfigurationWriters := by
  intro s t h hchange
  rcases step_cases h with ⟨w, i, rest, -, -, hx⟩ | ⟨w, e, rest, -, -, rfl⟩ | ⟨rest, hi, -⟩ | ⟨rest, -, -, rfl⟩ |
    ⟨a, x, rest, hi, -, hx⟩
  · exact absurd (exec_keeps_cfg hx) hchange
  · exact absurd (by simp) hchange
  · exact .inr <| .inr ⟨rest, hi⟩
  · exact absurd (by simp) hchange
  · rcases resume_cfg hx with hkept | ⟨hc, rfl, hcfg⟩ | ⟨hc, ⟨n, rfl, hn⟩, c, hcand, hcfg⟩
    · exact absurd hkept hchange
    · exact .inl ⟨hc, ⟨rest, hi⟩, hcfg⟩
    · exact .inr <| .inl ⟨hc, ⟨n, rest, hi, hn⟩, c, hcand, hcfg⟩

end Sys2Proof.Machine
end

section
/-! SUPPORT. The link commands (42_link R212 to R221): LINK_CONFIG's operands, acceptance under a test, and the sites as steps. -/

/-! ### LINK_CONFIG's operands (R116) -/

namespace Sys2Proof

theorem CommandWord.framing_eq_data (w : CommandWord) : w.framing = w.data.extractLsb' 0 4 := by
  ext i hi
  simp [CommandWord.framing, CommandWord.data]

theorem CommandWord.driver_eq_data (w : CommandWord) : w.driver = w.data.getLsbD 4 := by
  simp [CommandWord.driver, CommandWord.data]

end Sys2Proof

namespace Sys2Proof.Machine

/-! ### Acceptance (R110) -/

/-- A command with a test for refusal, presented at IDLE, as the one state its test chooses (R19). -/
theorem exec_eq_ite_refused {i : Instr} {s u : State} {P : Prop} [Decidable P] {refuses : Bool} (hop : i.op ≠ 0)
    (hidle : s.ctl = .idle)
    (hacc : acceptance i (s.latch (encode i)) = if refuses then (s.latch (encode i)).refuse else u)
    (hrefuses : refuses = false ↔ P) :
    exec i s = .next (if P then u else Claims.completed (Claims.accepted s (encode i)) i.op .cmdRefused 0 0) := by
  obtain ⟨hruns, hrefused⟩ := exec_runs_or_refuses hop hidle hacc hrefuses
  split
  · exact hruns ‹P›
  · exact hrefused ‹¬P›

/-! ### The sites as steps (R18) -/

section
variable {s : State} {rest : List Event}

theorem step_lOpen {r : Status} (hc : s.ctl = .lOpen) (hi : s.inputs = .answer (.status r) :: rest) :
    step s = .next ((Claims.served s rest (.openLink s.params.linkId)).linkOpened r) :=
  (step_served hi (State.request_lOpen hc)).trans (State.resume_lOpen (s := Claims.served s rest _) hc _)

theorem step_lConf {r : Status} {v : Framing} (hc : s.ctl = .lConf) (hi : s.inputs = .answer (.status r) :: rest)
    (hv : s.params.framings[s.cur.framing.toNat]? = some v) :
    step s = .next ((Claims.served s rest (.configure v s.cur.driver s.cur.addr)).linkConfigured r) :=
  (step_served hi (State.request_lConf hc hv)).trans (State.resume_lConf (s := Claims.served s rest _) hc _)

theorem step_lDisc (hc : s.ctl = .lDisc) (hi : s.inputs = .answer .done :: rest) :
    step s = .next (Claims.served s rest .discardBuffers).linkDiscarded :=
  (step_served hi (State.request_lDisc hc)).trans (State.resume_lDisc (s := Claims.served s rest _) hc _)

theorem step_sDisc (hc : s.ctl = .sDisc) (hi : s.inputs = .answer .done :: rest) :
    step s = .next ((Claims.served s rest .discardBuffers).goto .sWrite) :=
  (step_served hi (State.request_sDisc hc)).trans (State.resume_sDisc (s := Claims.served s rest _) hc _)

theorem step_sWrite {r : Status} (hc : s.ctl = .sWrite) (hi : s.inputs = .answer (.status r) :: rest) :
    step s = .next ((Claims.served s rest (.write s.enc.txbuf)).writeDone r) :=
  (step_served hi (State.request_sWrite hc)).trans (State.resume_sWrite (s := Claims.served s rest _) hc _)

end

end Sys2Proof.Machine
end

section
/-! PROOF. The link commands (42_link R210 to R221). -/

namespace Sys2Proof.Machine

/-- Settles O10: OP alone selects NOP, whose meaning answers the state it was given. -/
theorem nopChangesNothing : Obligations.NopChangesNothing := by
  refine ⟨fun w hop => ?_, fun _ _ => rfl⟩
  rw [decode, hop]
  rfl

/-- Settles O29: past the test SEND goes to the first send site; the two sites are one step each. -/
theorem sendWritesFrame : Obligations.SendWritesFrame := by
  refine ⟨fun ign s hidle => ?_, fun _ _ hc hi => step_sDisc hc hi, fun _ _ _ hc hi => step_sWrite hc hi⟩
  exact exec_eq_ite_refused (i := .send ign) (by decide : (0x11 : Byte) ≠ 0) hidle rfl
    (s.latch (encode (.send ign))).refusesSend_false

/-- Settles O30: one line per user of a write, a reception begun as R182 writes it. -/
theorem writeContinuations : Obligations.WriteContinuations := by
  intro s r
  refine ⟨fun hm hop => State.writeDone_send hm hop r, fun hm hop => ?_, fun hm => ?_⟩
  · rw [State.writeDone_read hm hop, State.rxBegin_eq_begun]
    rfl
  · rw [State.writeDone_poll hm, State.rxBegin_eq_begun]
    rfl

/-- Settles O31: acceptance tests the link, and L_OPEN's continuation is a case per answer. -/
theorem linkOpenOpensOnce : Obligations.LinkOpenOpensOnce := by
  refine ⟨fun ign s hidle => exec_accepts (i := .linkOpen ign) (by decide : (0x18 : Byte) ≠ 0) hidle, fun s rest r hc hi => ?_⟩
  rw [step_lOpen hc hi]
  cases r <;> rfl

/-- Settles O32: past the test LINK_CONFIG goes to L_CONF, whose continuation is a case per answer. -/
theorem linkConfigApplies : Obligations.LinkConfigApplies := by
  refine ⟨fun addr ignMid ignTop driver framing s hidle => ?_, fun s rest r v hc hi hv => ?_⟩
  · exact exec_eq_ite_refused (i := .linkConfig addr ignMid ignTop driver framing) (by decide : (0x19 : Byte) ≠ 0) hidle rfl
      ((s.latch _).refusesConfig_false framing)
  · dsimp only
    rw [← CommandWord.framing_eq_data] at hv ⊢
    rw [← CommandWord.driver_eq_data, step_lConf hc hi hv]
    cases r <;> rfl

/-- Settles O33: past the test LINK_DISCARD goes to L_DISC, which is one step. -/
theorem linkDiscardDiscards : Obligations.LinkDiscardDiscards := by
  refine ⟨fun ign s hidle => ?_, fun _ _ hc hi => step_lDisc hc hi⟩
  exact exec_eq_ite_refused (i := .linkDiscard ign) (by decide : (0x1A : Byte) ≠ 0) hidle rfl
    (s.latch (encode (.linkDiscard ign))).refusesDiscard_false

end Sys2Proof.Machine
end

section
/-! PROOF. The candidate space (43_discovery R231 to R233): list positions and candidate numbers, one from the other. -/

namespace Sys2Proof.Machine

section
variable {p : Params} {f d a i : Nat}

/-! ### From list positions to the candidate number -/

theorem candidateNumber_lt_size (hf : f < p.nf) (hd : d < p.nd) (ha : a < p.na) :
    (f * p.nd + d) * p.na + a < p.size := by
  have hdriver : f * p.nd + d < p.nf * p.nd :=
    calc f * p.nd + d < (f + 1) * p.nd := by rw [Nat.succ_mul]; exact Nat.add_lt_add_left hd _
      _ ≤ p.nf * p.nd := Nat.mul_le_mul_right _ hf
  calc (f * p.nd + d) * p.na + a < (f * p.nd + d + 1) * p.na := by rw [Nat.succ_mul]; exact Nat.add_lt_add_left ha _
    _ ≤ p.size := Nat.mul_le_mul_right _ hdriver

theorem addressIndex_candidateNumber (ha : a < p.na) : addressIndex p ((f * p.nd + d) * p.na + a) = a :=
  Nat.mul_add_mod_of_lt ha

/-- Without its address position a candidate number counts the pairs of framing and driver mode. -/
theorem candidateNumber_div_na (ha : a < p.na) : ((f * p.nd + d) * p.na + a) / p.na = f * p.nd + d := by
  rw [Nat.mul_comm, Nat.mul_add_div (Nat.zero_lt_of_lt ha), Nat.div_eq_of_lt ha, Nat.add_zero]

theorem driverIndex_candidateNumber (hd : d < p.nd) (ha : a < p.na) : driverIndex p ((f * p.nd + d) * p.na + a) = d := by
  rw [driverIndex, candidateNumber_div_na ha]
  exact Nat.mul_add_mod_of_lt hd

theorem framingIndex_candidateNumber (hd : d < p.nd) (ha : a < p.na) : framingIndex p ((f * p.nd + d) * p.na + a) = f := by
  rw [framingIndex, ← Nat.div_div_eq_div_mul, candidateNumber_div_na ha, Nat.mul_comm,
    Nat.mul_add_div (Nat.zero_lt_of_lt hd), Nat.div_eq_of_lt hd, Nat.add_zero]

theorem candidate_candidateNumber (hf : f < p.framings.length) (hd : d < p.driverModes.length) (ha : a < p.addresses.length) :
    candidate p ((f * p.nd + d) * p.na + a) =
      some ⟨BitVec.ofNat 4 f, p.framings[f], p.driverModes[d], p.addresses[a]⟩ := by
  simp only [candidate, framingIndex_candidateNumber hd ha, driverIndex_candidateNumber hd ha, addressIndex_candidateNumber ha,
    List.getElem?_eq_getElem hf, List.getElem?_eq_getElem hd, List.getElem?_eq_getElem ha]

/-! ### From the candidate number to list positions -/

/-- The digits of a number below N in the mixed radix of the three lists. -/
theorem exists_listPositions (hi : i < p.size) :
    ∃ f d a, f < p.nf ∧ d < p.nd ∧ a < p.na ∧ i = (f * p.nd + d) * p.na + a := by
  have hpairs : i / p.na < p.nf * p.nd := Nat.div_lt_of_lt_mul (by rwa [Nat.mul_comm])
  have hna : 0 < p.na := Nat.pos_of_mul_pos_left (Nat.zero_lt_of_lt hi)
  have hnd : 0 < p.nd := Nat.pos_of_mul_pos_left (Nat.zero_lt_of_lt hpairs)
  refine ⟨i / p.na / p.nd, i / p.na % p.nd, i % p.na, Nat.div_lt_of_lt_mul (by rwa [Nat.mul_comm]), Nat.mod_lt _ hnd,
    Nat.mod_lt _ hna, ?_⟩
  rw [Nat.div_add_mod', Nat.div_add_mod']

theorem exists_candidate (hi : i < p.size) : ∃ c, candidate p i = some c := by
  obtain ⟨f, d, a, hf, hd, ha, rfl⟩ := exists_listPositions hi
  exact ⟨_, candidate_candidateNumber hf hd ha⟩

/-- Past the end of the list of framings. -/
theorem candidate_eq_none (hp : p.Valid) (hi : p.size ≤ i) : candidate p i = none := by
  have hpairs : 0 < p.na * p.nd := Nat.mul_pos hp.2.2.1.1.1 hp.2.1.1.1
  have hsize : p.nf * (p.na * p.nd) = p.size := by rw [Params.size, Nat.mul_assoc, Nat.mul_comm p.na]
  have hf : p.framings.length ≤ framingIndex p i := (Nat.le_div_iff_mul_le hpairs).2 (hsize.trans_le hi)
  simp only [candidate, List.getElem?_eq_none hf]

end

/-- Settles O39: a candidate number is a number of three digits, and the three indices read the digits back. -/
theorem candidateOrder : Obligations.CandidateOrder := fun _ hp =>
  ⟨Params.size_le hp, fun _ _ _ hf hd ha => ⟨candidateNumber_lt_size hf hd ha, candidate_candidateNumber hf hd ha⟩,
    fun _ hi => exists_listPositions hi, fun _ hi => candidate_eq_none hp hi⟩

end Sys2Proof.Machine
end

section
/-! SUPPORT. The sequencer's sites as steps (43_discovery R236 to R245): the transaction served and what the sequencer does with the
answer. -/

namespace Sys2Proof.Machine

section
variable {s : State} {rest : List Event}

theorem step_qOpen {r : Status} (hc : s.ctl = .qOpen) (hi : s.inputs = .answer (.status r) :: rest) :
    step s = .next ((Claims.served s rest (.openLink s.params.linkId)).sessionOpened r) :=
  (step_served hi (State.request_qOpen hc)).trans (State.resume_qOpen (s := Claims.served s rest _) hc _)

theorem step_qConf {r : Status} {c : Candidate} (hc : s.ctl = .qConf) (hi : s.inputs = .answer (.status r) :: rest)
    (hcand : s.candidate = some c) :
    step s = .next ((Claims.served s rest (.configure c.framing c.driver c.address)).probeConfigured c r) :=
  (step_served hi (State.request_qConf hc hcand)).trans
    ((State.resume_qConf (s := Claims.served s rest _) hc _).trans (withCandidate_some hcand _))

theorem step_qSdisc (hc : s.ctl = .qSdisc) (hi : s.inputs = .answer .done :: rest) :
    step s = .next ((Claims.served s rest .discardBuffers).goto .qWrite) :=
  (step_served hi (State.request_qSdisc hc)).trans (State.resume_qSdisc (s := Claims.served s rest _) hc _)

theorem step_qWrite {r : Status} (hc : s.ctl = .qWrite) (hi : s.inputs = .answer (.status r) :: rest) :
    step s = .next ((Claims.served s rest (.write s.enc.txbuf)).probeWritten r) :=
  (step_served hi (State.request_qWrite hc)).trans (State.resume_qWrite (s := Claims.served s rest _) hc _)

theorem step_qDelay (hc : s.ctl = .qDelay) (hi : s.inputs = .answer .done :: rest) :
    step s = .next ((Claims.served s rest (.delay s.params.probeInterval)).tick .qAvail) :=
  (step_served hi (State.request_qDelay hc)).trans (State.resume_qDelay (s := Claims.served s rest _) hc _)

theorem step_qAvail {n : Nat} {c : Candidate} (hc : s.ctl = .qAvail) (hi : s.inputs = .answer (.count n) :: rest)
    (hcand : s.candidate = some c) : step s = .next ((Claims.served s rest .bytesAvailable).probeAvailed c n) :=
  (step_served hi (State.request_qAvail hc)).trans
    ((State.resume_qAvail (s := Claims.served s rest _) hc _).trans (withCandidate_some hcand _))

theorem step_qFdisc (hc : s.ctl = .qFdisc) (hi : s.inputs = .answer .done :: rest) :
    step s = .next (Claims.served s rest .discardBuffers).pollBegin :=
  (step_served hi (State.request_qFdisc hc)).trans (State.resume_qFdisc (s := Claims.served s rest _) hc _)

theorem step_pDelay (hc : s.ctl = .pDelay) (hi : s.inputs = .answer .done :: rest) :
    step s = .next (Claims.served s rest (.delay s.params.pollPeriod)).pollBegin :=
  (step_served hi (State.request_pDelay hc)).trans (State.resume_pDelay (s := Claims.served s rest _) hc _)

/-- At Q_EXH the internal step runs although an answer may be next; the answer stays (R242; log 1). -/
theorem step_qExh (hc : s.ctl = .qExh) (hi : ∀ e, s.inputs.head? = some e → ∃ a, e = .answer a) : step s = .next s.exhaust := by
  rcases hin : s.inputs with _ | ⟨e, rest⟩
  · simp only [step_goOn hin, State.goOn, hc]
  · obtain ⟨a, rfl⟩ := hi e (by rw [hin]; rfl)
    simp only [step, hin, State.onEvents, State.answered, hc]

theorem step_qExh_internal (hc : s.ctl = .qExh) (hi : s.inputs = .internal :: rest) :
    step s = .next (State.exhaust { s with inputs := rest }) := by
  simp only [step, hi, State.onEvents, State.internalStep, hc]

end

end Sys2Proof.Machine
end

section
/-! PROOF. The sequencer's single steps (43_discovery R235 to R245). -/

namespace Sys2Proof.Machine

/-- Settles O34: acceptance tests the link, and Q_OPEN's continuation is a case per answer. -/
theorem discStartOpensAndProbes : Obligations.DiscStartOpensAndProbes := by
  refine ⟨fun ign s hidle => ?_, fun s rest r hc hi => ?_⟩
  · refine (exec_accepts (i := .discStart ign) (by decide : (0x20 : Byte) ≠ 0) hidle).trans (congrArg Host.Outcome.next ?_)
    by_cases hl : s.linkOpen = true
    · rw [if_pos hl]
      exact if_pos hl
    · rw [if_neg hl]
      exact if_neg hl
  · rw [step_qOpen hc hi]
    cases r <;> rfl

/-- Settles O35: Q_CONF, Q_SDISC and Q_WRITE are one step each, with a case per answer. -/
theorem probeConfiguresAndWrites : Obligations.ProbeConfiguresAndWrites := by
  refine ⟨fun s rest r c hc hi hcand => ?_, fun s rest hc hi => step_qSdisc hc hi, fun s rest r hc hi => ?_, fun _ => rfl⟩
  · rw [step_qConf hc hi hcand]
    cases r <;> rfl
  · rw [step_qWrite hc hi]
    cases r <;> rfl

/-- Settles O36: Q_DELAY and Q_AVAIL are one step each. -/
theorem probeWaitsAndFinds : Obligations.ProbeWaitsAndFinds :=
  ⟨fun _ _ hc hi => step_qDelay hc hi, fun _ _ _ _ hc hi hcand => step_qAvail hc hi hcand⟩

/-- Settles O37: the internal step runs with nothing in store, before an answer, and when asked for. -/
theorem exhaustionRestarts : Obligations.ExhaustionRestarts := by
  refine fun s hc => ⟨fun hi => step_qExh hc fun e he => ?_, fun _ hi => step_qExh_internal hc hi⟩
  rcases hi with hi | ⟨a, rest, hi⟩
  · simp [hi] at he
  · exact ⟨a, by simpa [hi] using he.symm⟩

/-- Settles O38: both sites run poll_begin. -/
theorem pollBuildsRequest : Obligations.PollBuildsRequest := by
  rintro s rest hi x (⟨hc, rfl⟩ | ⟨hc, rfl⟩)
  · exact step_qFdisc hc hi
  · exact step_pDelay hc hi

end Sys2Proof.Machine
end

section
/-! SUPPORT. Steps while the engine is busy (30_encoding R111, 43_discovery R235): what a presented word leaves as it is, and the
command an answer leaves in charge. -/

namespace Sys2Proof.Machine

section
variable {s t : State} {a : Answer} {rest : List Event}

/-! ### Presented words (R111) -/

/-- From `s` to `t` nothing changes that a word presented to a busy engine may not change. -/
def State.Stutters (s t : State) : Prop :=
  ∃ inputs res reports, t = { s with inputs := inputs, res := res, reports := reports }

theorem State.Stutters.ctl : s.Stutters t → t.ctl = s.ctl := by rintro ⟨_, _, _, rfl⟩; rfl
theorem State.Stutters.mode : s.Stutters t → t.mode = s.mode := by rintro ⟨_, _, _, rfl⟩; rfl
theorem State.Stutters.cur : s.Stutters t → t.cur = s.cur := by rintro ⟨_, _, _, rfl⟩; rfl
theorem State.Stutters.cfg : s.Stutters t → t.cfg = s.cfg := by rintro ⟨_, _, _, rfl⟩; rfl
theorem State.Stutters.transactions : s.Stutters t → t.transactions = s.transactions := by
  rintro ⟨_, _, _, rfl⟩; rfl
theorem State.Stutters.stateOf : s.Stutters t → t.stateOf = s.stateOf := by rintro ⟨_, _, _, rfl⟩; rfl

theorem step_present_busy {w : CommandWord} (hbusy : s.ctl ≠ .idle) (hi : s.inputs = .present w :: rest) :
    step s = .next (if w.op = 0x00 then { s with inputs := rest } else Claims.refusedBusy { s with inputs := rest } w.op) :=
  (step_present hi).trans (busyWordIsRefused { s with inputs := rest } w hbusy)

theorem step_present_busy_stutters {w : CommandWord} (hbusy : s.ctl ≠ .idle) (hi : s.inputs = .present w :: rest)
    (h : step s = .next t) : s.Stutters t := by
  rw [step_present_busy hbusy hi, Host.Outcome.next.injEq] at h
  rw [← h]
  split <;> exact ⟨_, _, _, rfl⟩

/-- Everything a busy engine can do in a step, reset aside. -/
theorem step_busy_cases (hbusy : s.ctl ≠ .idle) (hreset : ∀ rest, s.inputs ≠ .reset :: rest) (h : step s = .next t) :
    ((∃ w rest, s.inputs = .present w :: rest) ∧ s.Stutters t) ∨
    (∃ rest, s.ctl = .qExh ∧ t = State.exhaust { s with inputs := rest }) ∨
    (∃ a x rest, s.inputs = .answer a :: rest ∧ s.request = some x ∧ (Claims.served s rest x).resume a = .next t) := by
  rcases step_cases h with ⟨w, i, rest, hi, -⟩ | ⟨w, e, rest, hi, -⟩ | ⟨rest, hi, -⟩ | ⟨rest, hc, -, ht⟩ | ⟨a, x, rest, hi, hr, hx⟩
  · exact .inl ⟨⟨w, rest, hi⟩, step_present_busy_stutters hbusy hi h⟩
  · exact .inl ⟨⟨w, rest, hi⟩, step_present_busy_stutters hbusy hi h⟩
  · exact absurd hi (hreset rest)
  · exact .inr <| .inl ⟨rest, hc, ht⟩
  · exact .inr <| .inr ⟨a, x, rest, hi, hr, hx⟩

/-! ### The command in charge (R41, R42) -/

/-- The same command runs, with the same parameters. -/
structure State.SameCommand (s t : State) : Prop where
  mode : t.mode = s.mode
  cur : t.cur = s.cur
  params : t.params = s.params

theorem State.writeDone_sameCommand (s : State) (r : Status) : s.SameCommand (s.writeDone r) := by
  unfold State.writeDone
  (repeat' split) <;> exact ⟨by simp, by simp, by simp⟩

theorem State.advance_sameCommand (s : State) : s.SameCommand s.advance := by
  unfold State.advance
  split <;> exact ⟨rfl, rfl, rfl⟩

theorem State.probeAvailed_sameCommand (s : State) (c : Candidate) (n : Nat) : s.SameCommand (s.probeAvailed c n) := by
  unfold State.probeAvailed
  dsimp only
  split
  · exact ⟨rfl, rfl, rfl⟩
  · split
    · exact { (s.setAvail n).advance_sameCommand with }
    · exact ⟨rfl, rfl, rfl⟩

/-- No answer latches a word or changes the mode: only acceptance does (R110). -/
theorem resume_sameCommand (h : s.resume a = .next t) : s.SameCommand t := by
  rcases resume_cases h with ⟨r, -, -, rfl⟩ | ⟨r, -, -, rfl⟩ | ⟨-, -, rfl⟩ | ⟨-, -, rfl⟩ | ⟨r, -, -, rfl⟩ | ⟨-, -, rfl⟩ |
    ⟨n, -, -, rfl⟩ | ⟨r, -, -, -, rfl⟩ | ⟨-, -, rfl⟩ | ⟨n, -, -, rfl⟩ | ⟨r, -, -, -, rfl⟩ | ⟨r, -, -, rfl⟩ |
    ⟨c, r, -, -, -, rfl⟩ | ⟨-, -, rfl⟩ | ⟨r, -, -, rfl⟩ | ⟨-, -, rfl⟩ | ⟨c, n, -, -, -, rfl⟩ | ⟨-, -, rfl⟩ | ⟨-, -, rfl⟩
  on_goal 17 => exact s.probeAvailed_sameCommand c n -- Q_AVAIL
  on_goal 15 => -- Q_WRITE
    cases r with
    | ok => exact ⟨rfl, rfl, rfl⟩
    | err => exact s.advance_sameCommand
  on_goal 13 => -- Q_CONF
    cases r with
    | ok => exact ⟨rfl, rfl, rfl⟩
    | err => exact s.advance_sameCommand
  on_goal 12 => cases r <;> exact ⟨rfl, rfl, rfl⟩ -- Q_OPEN
  on_goal 5 => exact s.writeDone_sameCommand r -- S_WRITE
  on_goal 3 => exact ⟨rfl, rfl, rfl⟩ -- L_DISC
  case inl | inr.inl => cases r <;> exact ⟨rfl, rfl, rfl⟩ -- L_OPEN, L_CONF
  all_goals exact ⟨by simp, by simp, by simp⟩

theorem step_busy_sameCommand (hbusy : s.ctl ≠ .idle) (hreset : ∀ rest, s.inputs ≠ .reset :: rest) (h : step s = .next t) :
    t.mode = s.mode ∧ t.cur = s.cur := by
  rcases step_busy_cases hbusy hreset h with ⟨-, ht⟩ | ⟨rest, -, rfl⟩ | ⟨a, x, rest, -, -, hx⟩
  · exact ⟨ht.mode, ht.cur⟩
  · exact ⟨rfl, rfl⟩
  · exact ⟨(resume_sameCommand hx).mode, (resume_sameCommand hx).cur⟩

end

end Sys2Proof.Machine
end

section
/-! SUPPORT. Where an answer leads (10_state R40), by the group of its site: the link commands end, a request write and its reception
go on until their user's control point, a probe moves through the search, and Found starts the polling loop. -/

namespace Sys2Proof.Machine

section
variable {s t : State} {a : Answer}

/-- What holds of the control point written last. -/
theorem State.at_ctl {P : Ctl → Prop} (c : Ctl) (hP : P c := by decide) (hc : t.ctl = c := by rfl) : P t.ctl := hc ▸ hP

/-! ### A request write and its reception (41_frame_codec R188, 42_link R221) -/

/-- Where the user of a request write and a reception is left when they are over: a command at IDLE, the polling loop at its wait. -/
def Mode.home : Mode → Ctl
  | .cmd => .idle
  | .seq => .pDelay

/-- In a request write or its reception, or just out of them. -/
def State.InExchange (s : State) : Prop := s.ctl.Sending ∨ s.ctl.Receiving ∨ s.ctl = s.mode.home

theorem State.InExchange.receiving (c : Ctl) (hr : c.Receiving := by decide) (hc : s.ctl = c := by rfl) : s.InExchange :=
  .inr (.inl (State.at_ctl c hr hc))

theorem State.complete_inExchange (hm : s.mode = .cmd) (op : Byte) (code : ResultCode) (a b : Byte) :
    (s.complete op code a b).InExchange := .inr (.inr (congrArg Mode.home hm).symm)

theorem State.readAfterRx_inExchange (hm : s.mode = .cmd) (code : ResultCode) (a b : Byte) :
    (s.readAfterRx code a b).InExchange := by
  unfold State.readAfterRx
  split
  · exact State.complete_inExchange (s := s.decodeIntoM) hm ..
  · exact State.complete_inExchange hm ..

theorem State.pollAfterRx_inExchange (hm : s.mode = .seq) (code : ResultCode) (a b : Byte) :
    (s.pollAfterRx code a b).InExchange := by
  unfold State.pollAfterRx
  split <;> exact .inr (.inr (congrArg Mode.home hm).symm)

theorem State.rxDone_inExchange (h : s.InExchange) (code : ResultCode) (a b : Byte) : (s.rxDone code a b).InExchange := by
  unfold State.rxDone
  split
  · rename_i hm
    split
    · exact State.complete_inExchange hm ..
    · split
      · exact State.readAfterRx_inExchange hm ..
      · exact h
  · rename_i hm
    exact State.pollAfterRx_inExchange hm ..

theorem State.checkC_inExchange (h : s.InExchange) : s.checkC.InExchange := by
  unfold State.checkC
  split
  · exact .receiving .rdRead
  · split
    · exact State.rxDone_inExchange h ..
    · exact .receiving .rcDelay

theorem State.enterC_inExchange (h : s.InExchange) : s.enterC.InExchange := State.checkC_inExchange (s := { s with k := 0 }) h

theorem State.raAvailed_inExchange (h : s.InExchange) (n : Nat) : (s.raAvailed n).InExchange := by
  unfold State.raAvailed
  dsimp only
  split
  · split
    · exact .receiving .rbRead
    · exact State.enterC_inExchange (s := s.setAvail n) h
  · split
    · exact State.rxDone_inExchange (s := s.setAvail n) h ..
    · exact .receiving .raDelay

theorem State.rbGot_inExchange (h : s.InExchange) (r : List Byte) : (s.rbGot r).InExchange := by
  unfold State.rbGot
  dsimp only
  split
  · exact State.rxDone_inExchange h ..
  · split
    · exact .receiving .rbRead
    · split
      · exact State.rxDone_inExchange (s := s.storeBytes r) h ..
      · exact State.enterC_inExchange (s := (s.storeBytes r).setAvail 0) h

theorem State.checkE_inExchange (h : s.InExchange) : s.checkE.InExchange := by
  unfold State.checkE
  dsimp only
  split
  · exact State.rxDone_inExchange (s := { s with crc := s.frameCrc, rx := { s.rx with rxOk := true } }) h ..
  · exact State.rxDone_inExchange (s := { s with crc := s.frameCrc }) h ..

theorem State.rdGot_inExchange (h : s.InExchange) (r : List Byte) : (s.rdGot r).InExchange := by
  unfold State.rdGot
  dsimp only
  split
  · exact State.rxDone_inExchange h ..
  · split
    · exact .receiving .rdRead
    · exact State.checkE_inExchange (s := s.storeBytes r) h

theorem State.writeDone_inExchange (h : s.InExchange) (r : Status) : (s.writeDone r).InExchange := by
  unfold State.writeDone
  split
  · rename_i hm
    split
    · exact State.complete_inExchange hm ..
    · split
      · cases r with
        | ok => exact .receiving .raDelay
        | err => exact State.complete_inExchange hm ..
      · exact h
  · rename_i hm
    cases r with
    | ok => exact .receiving .raDelay
    | err => exact State.pollAfterRx_inExchange hm .transportFailure 0 0

theorem resume_inExchange (hs : s.ctl.Sending ∨ s.ctl.Receiving) (h : s.resume a = .next t) : t.InExchange := by
  have hex : s.InExchange := hs.imp_right .inl
  rcases resume_cases h with ⟨r, hc, -⟩ | ⟨r, hc, -⟩ | ⟨hc, -⟩ | ⟨hc, -, rfl⟩ | ⟨r, hc, -, rfl⟩ | ⟨hc, -, rfl⟩ |
    ⟨n, hc, -, rfl⟩ | ⟨r, hc, -, -, rfl⟩ | ⟨hc, -, rfl⟩ | ⟨n, hc, -, rfl⟩ | ⟨r, hc, -, -, rfl⟩ | ⟨r, hc, -⟩ |
    ⟨c, r, hc, -⟩ | ⟨hc, -⟩ | ⟨r, hc, -⟩ | ⟨hc, -⟩ | ⟨c, n, hc, -⟩ | ⟨hc, -⟩ | ⟨hc, -⟩
  on_goal 11 => exact State.rdGot_inExchange hex r -- RD_READ
  on_goal 10 => exact State.checkC_inExchange (s := s.setAvail n) hex -- RC_AVAIL
  on_goal 9 => exact .receiving .rcAvail -- RC_DELAY
  on_goal 8 => exact State.rbGot_inExchange hex r -- RB_READ
  on_goal 7 => exact State.raAvailed_inExchange hex n -- RA_AVAIL
  on_goal 6 => exact .receiving .raAvail -- RA_DELAY
  on_goal 5 => exact State.writeDone_inExchange hex r -- S_WRITE
  on_goal 4 => exact .inl (State.at_ctl .sWrite) -- S_DISC
  all_goals exact absurd hs (by rw [hc]; decide)

/-! ### The search (43_discovery R237 to R241) -/

/-- What one answer to a probe can do to the search: the probe goes on, the next candidate's begins, the candidates are exhausted, or
the candidate is found. -/
inductive State.ProbeMoves (s t : State) : Prop
  | stays (hctl : t.ctl.Probing) (hci : t.ci = s.ci := by rfl) (hreports : t.reports = s.reports := by rfl)
      (hres : t.res = s.res := by rfl)
  | next (hmore : s.ci.toNat + 1 < s.params.size) (hctl : t.ctl.Probing) (hci : t.ci = s.ci + 1) (hreports : t.reports = s.reports)
      (hres : t.res = s.res)
  | last (hlast : s.params.size ≤ s.ci.toNat + 1) (hctl : t.ctl = .qExh) (hreports : t.reports = s.reports) (hres : t.res = s.res)
  | found (c : Candidate) (hcand : s.candidate = some c) (hctl : t.ctl = .qFdisc)
      (hcfg : t.cfg = ⟨c.f, c.driver, c.address, s.ci, true⟩)
      (hreports : t.reports = s.reports ++ [.found c.f c.driver c.address s.ci]) (hres : t.res = s.res)

theorem State.ProbeMoves.res (h : s.ProbeMoves t) : t.res = s.res := by cases h <;> assumption

/-- R240, from any state that has the search's registers from `s`. -/
theorem State.advance_probeMoves {u : State} (hci : u.ci = s.ci := by rfl) (hparams : u.params = s.params := by rfl)
    (hreports : u.reports = s.reports := by rfl) (hres : u.res = s.res := by rfl) : s.ProbeMoves u.advance := by
  unfold State.advance
  rw [hci, hparams]
  split
  · exact .next ‹_› (State.at_ctl .qConf) rfl hreports hres
  · exact .last (Nat.le_of_not_lt ‹_›) rfl hreports hres

theorem State.probeConfigured_probeMoves (s : State) (c : Candidate) (r : Status) : s.ProbeMoves (s.probeConfigured c r) := by
  cases r with
  | ok =>
    refine .stays ?_
    simp only [State.probeConfigured, State.gotoSend_ctl]
    split <;> decide
  | err => exact State.advance_probeMoves

theorem State.probeWritten_probeMoves (s : State) (r : Status) : s.ProbeMoves (s.probeWritten r) := by
  cases r with
  | ok => exact .stays (State.at_ctl .qDelay)
  | err => exact State.advance_probeMoves

theorem State.probeAvailed_probeMoves {c : Candidate} (hcand : s.candidate = some c) (n : Nat) :
    s.ProbeMoves (s.probeAvailed c n) := by
  unfold State.probeAvailed
  dsimp only
  split
  · exact .found c hcand rfl rfl rfl rfl
  · split
    · exact State.advance_probeMoves
    · exact .stays (State.at_ctl .qDelay)

theorem resume_probeMoves (hs : s.ctl.Probing) (h : s.resume a = .next t) : s.ProbeMoves t := by
  rcases resume_cases h with ⟨r, hc, -⟩ | ⟨r, hc, -⟩ | ⟨hc, -⟩ | ⟨hc, -⟩ | ⟨r, hc, -⟩ | ⟨hc, -⟩ | ⟨n, hc, -⟩ | ⟨r, hc, -⟩ |
    ⟨hc, -⟩ | ⟨n, hc, -⟩ | ⟨r, hc, -⟩ | ⟨r, hc, -⟩ | ⟨c, r, hc, -, -, rfl⟩ | ⟨hc, -, rfl⟩ | ⟨r, hc, -, rfl⟩ |
    ⟨hc, -, rfl⟩ | ⟨c, n, hc, hcand, -, rfl⟩ | ⟨hc, -⟩ | ⟨hc, -⟩
  on_goal 17 => exact State.probeAvailed_probeMoves hcand n -- Q_AVAIL
  on_goal 16 => exact .stays (State.at_ctl .qAvail) -- Q_DELAY
  on_goal 15 => exact s.probeWritten_probeMoves r -- Q_WRITE
  on_goal 14 => exact .stays (State.at_ctl .qWrite) -- Q_SDISC
  on_goal 13 => exact s.probeConfigured_probeMoves c r -- Q_CONF
  all_goals exact absurd hs (by rw [hc]; decide)

/-! ### The remaining sites -/

theorem resume_link (hs : s.ctl ∈ [Ctl.lOpen, .lConf, .lDisc]) (h : s.resume a = .next t) : t.ctl = .idle := by
  simp only [List.mem_cons, List.not_mem_nil, or_false] at hs
  rcases hs with hc | hc | hc
  · obtain ⟨r, -, rfl⟩ := onStatus_next ((State.resume_lOpen hc a).symm.trans h)
    cases r <;> rfl
  · obtain ⟨r, -, rfl⟩ := onStatus_next ((State.resume_lConf hc a).symm.trans h)
    cases r <;> rfl
  · obtain ⟨-, rfl⟩ := onDone_next ((State.resume_lDisc hc a).symm.trans h)
    rfl

theorem resume_qOpen (hs : s.ctl = .qOpen) (h : s.resume a = .next t) : ∃ r, a = .status r ∧ t = s.sessionOpened r :=
  onStatus_next ((State.resume_qOpen hs a).symm.trans h)

theorem resume_pollBegin (hs : s.ctl ∈ [Ctl.qFdisc, .pDelay]) (h : s.resume a = .next t) : t = s.pollBegin := by
  rcases List.mem_pair.1 hs with hc | hc
  · exact (onDone_next ((State.resume_qFdisc hc a).symm.trans h)).2
  · exact (onDone_next ((State.resume_pDelay hc a).symm.trans h)).2

theorem State.pollBegin_sending (s : State) : s.pollBegin.ctl.Sending := by
  rw [State.pollBegin_ctl]
  split <;> decide

/-- Every site is in one of the groups. -/
theorem resume_site (h : s.resume a = .next t) :
    s.ctl ∈ [Ctl.lOpen, .lConf, .lDisc] ∨ (s.ctl.Sending ∨ s.ctl.Receiving) ∨ s.ctl = .qOpen ∨ s.ctl.Probing ∨
      s.ctl ∈ [Ctl.qFdisc, .pDelay] := by
  cases hc : s.ctl
  case idle | qExh | fatal => simp [State.resume, hc] at h
  all_goals decide

/-! ### The ways into FATAL and out of polling -/

/-- R247: the one answer that stops the engine. -/
theorem resume_fatal (h : s.resume a = .next t) (ht : t.ctl = .fatal) : s.ctl = .qOpen ∧ a = .status .err := by
  rcases resume_site h with hs | hs | hs | hs | hs
  · rw [resume_link hs h] at ht
    cases ht
  · rcases resume_inExchange hs h with hx | hx | hx
    · exact absurd hx (by rw [ht]; decide)
    · exact absurd hx (by rw [ht]; decide)
    · cases hm : t.mode <;> simp [ht, hm, Mode.home] at hx
  · obtain ⟨r, rfl, rfl⟩ := resume_qOpen hs h
    cases r with
    | ok => cases ht
    | err => exact ⟨hs, rfl⟩
  · cases resume_probeMoves hs h with
    | stays hctl | next _ hctl => exact absurd hctl (by rw [ht]; decide)
    | last _ hctl | found _ _ hctl => cases hctl.symm.trans ht
  · rw [resume_pollBegin hs h] at ht
    exact absurd s.pollBegin_sending (by rw [ht]; decide)

/-- R244 to R246: under the sequencer an answer to a polling read leads on in the loop. -/
theorem resume_polling (hm : s.mode = .seq) (hs : s.ctl.Polling) (h : s.resume a = .next t) : t.ctl.Polling := by
  rcases or_assoc.2 hs with hs | hs
  · rcases resume_inExchange hs h with hx | hx | hx
    · exact .inl hx
    · exact .inr (.inl hx)
    · rw [(resume_sameCommand h).mode, hm] at hx
      exact .inr (.inr (by rw [hx]; decide))
  · rw [resume_pollBegin hs h]
    exact .inl s.pollBegin_sending

end

end Sys2Proof.Machine
end

section
/-! PROOF. The sequencer over all steps (43_discovery R246 to R251). -/

namespace Sys2Proof.Machine

section
variable {s t : State} {a : Answer} {x : Transaction}

/-! ### Polling -/

theorem Ctl.Polling.ne {c d : Ctl} (h : c.Polling) (hd : ¬ d.Polling := by decide) : c ≠ d := fun hc => hd (hc ▸ h)

theorem Ctl.Probing.ne {c d : Ctl} (h : c.Probing) (hd : ¬ d.Probing := by decide) : c ≠ d := fun hc => hd (hc ▸ h)

/-- Only LINK_CONFIG's site and a probe's first issue a Configure. -/
theorem request_isConfigure (h : s.request = some x) (hx : x.isConfigure = true) : s.ctl = .lConf ∨ s.ctl = .qConf := by
  cases hc : s.ctl
  case idle | qExh | fatal => simp [State.request, hc] at h
  case lConf | qConf => simp
  all_goals
    simp only [State.request, hc, Option.some.injEq] at h
    rw [← h] at hx
    cases hx

end

/-- Settles O41: a presented word is refused, and an answer leads on in the loop; neither writes the Configuration register or issues a
Configure there. -/
theorem pollingNeverLeaves : Obligations.PollingNeverLeaves := by
  intro s t hm hs hreset h
  rcases step_busy_cases hs.ne hreset h with ⟨-, ht⟩ | ⟨rest, hc, -⟩ | ⟨a, x, rest, -, hr, hx⟩
  · exact ⟨ht.mode.trans hm, ht.ctl.symm ▸ hs, ht.cfg, [], by simp [ht.transactions]⟩
  · exact absurd hc hs.ne
  · have hcfg : t.cfg = s.cfg := by
      rcases resume_cfg hx with hkept | ⟨hl, -⟩ | ⟨hq, -⟩
      · exact hkept
      · exact absurd hl hs.ne
      · exact absurd hq hs.ne
    have hx' : x.isConfigure = false :=
      Bool.eq_false_iff.2 fun hconf => (request_isConfigure hr hconf).elim hs.ne hs.ne
    exact ⟨(resume_sameCommand hx).mode.trans hm, resume_polling (s := Claims.served s rest x) hm hs hx, hcfg, [x],
      (resume_keeps_ports hx).2, by simpa using hx'⟩

theorem State.Inv.mode_of_idle {s : State} (h : s.Inv) (hc : s.ctl = .idle) : s.mode = .cmd := by
  obtain ⟨-, hsite⟩ := State.inv_iff.1 h
  simpa only [State.SiteInv, hc] using hsite

theorem State.Inv.busy_of_seq {s : State} (h : s.Inv) (hm : s.mode = .seq) : s.ctl ≠ .idle := fun hc =>
  absurd (hm.symm.trans (h.mode_of_idle hc)) (by decide)

/-- Settles O48: no step of a busy engine changes mode or cur, and by the invariant the engine is at IDLE in mode CMD only. -/
theorem sequencerKeepsControl : Obligations.SequencerKeepsControl := by
  intro s t hs hm hreset h
  obtain ⟨hmode, hcur⟩ := step_busy_sameCommand (hs.busy_of_seq hm) hreset h
  exact ⟨hmode.trans hm, (everyStepKeepsInv s t hs h).busy_of_seq (hmode.trans hm), hcur⟩

/-! ### FATAL -/

theorem acceptance_ctl_ne_fatal (i : Instr) {s : State} (hs : s.ctl ≠ .fatal) : (acceptance i s).ctl ≠ .fatal := by
  cases i
  case nop => exact hs
  case crcInit | crcByte | build => simp [acceptance]
  case send | read =>
    simp only [acceptance]
    split
    · simp
    · rw [State.gotoSend_ctl]
      split <;> decide
  case receive | decode | linkOpen | linkConfig | linkDiscard | discStart =>
    simp only [acceptance]
    split <;> simp

theorem step_fatal {s t : State} (h : step s = .next t) (ht : t.ctl = .fatal) (hs : s.ctl ≠ .fatal) :
    s.ctl = .qOpen ∧ ∃ rest, s.inputs = .answer (.status .err) :: rest := by
  rcases step_cases h with ⟨w, i, rest, -, -, hx⟩ | ⟨w, e, rest, -, -, rfl⟩ | ⟨rest, -, rfl⟩ | ⟨rest, -, -, rfl⟩ |
    ⟨a, x, rest, hi, -, hx⟩
  · rw [exec_eq, Host.Outcome.next.injEq] at hx
    subst hx
    revert ht
    split
    · exact fun ht => absurd ht hs
    · split
      · exact fun ht => absurd ht (acceptance_ctl_ne_fatal i hs)
      · exact fun ht => absurd ht hs
  · unfold State.offerReserved State.offer at ht
    split at ht
    · cases ht
    · exact absurd ht hs
  · cases ht
  · cases ht
  · obtain ⟨hc, rfl⟩ := resume_fatal hx ht
    exact ⟨hc, rest, hi⟩

/-- Settles O49: the one answer that leads to FATAL, and at FATAL, which is no site, only words and reset do anything. -/
theorem fatalIsTerminal : Obligations.FatalIsTerminal := by
  refine ⟨fun s t h ht hs => step_fatal h ht hs, fun s t hc h => ?_, fun s hc hi => ?_⟩
  · have hbusy : s.ctl ≠ .idle := by rw [hc]; decide
    by_cases hreset : ∀ rest, s.inputs ≠ .reset :: rest
    · rcases step_busy_cases hbusy hreset h with ⟨⟨w, rest, hi⟩, -⟩ | ⟨rest, hexh, -⟩ | ⟨a, x, rest, -, hr, -⟩
      · exact .inr ⟨w, rest, hi, Host.Outcome.next.inj (h.symm.trans (step_present_busy hbusy hi))⟩
      · cases hc.symm.trans hexh
      · exact absurd hc (request_site hr).2.1
    · exact .inl (by simpa using hreset)
  · simp only [step_goOn hi, State.goOn, hc]

/-! ### Silence (R250) -/

/-- Settles O50. -/
theorem discoveryIsSilent : Obligations.DiscoveryIsSilent := by
  intro s t hs hpresent hreset h
  have hbusy : s.ctl ≠ .idle := hs.elim Ctl.Probing.ne (fun hc => by rw [hc]; decide)
  rcases step_busy_cases hbusy hreset h with ⟨⟨w, rest, hi⟩, -⟩ | ⟨rest, -, rfl⟩ | ⟨a, x, rest, hi, hr, hx⟩
  · exact absurd hi (hpresent w rest)
  · exact ⟨rfl, .inr (.inl rfl)⟩
  · have hprobing : s.ctl.Probing := hs.resolve_right (request_site hr).2.2
    have hmoves : (Claims.served s rest x).ProbeMoves t := resume_probeMoves hprobing hx
    refine ⟨hmoves.res, ?_⟩
    cases hmoves with
    | stays _ _ hreports | next _ _ _ hreports | last _ _ hreports => exact .inl hreports
    | found _ _ _ _ hreports => exact .inr (.inr ⟨_, _, _, _, hreports⟩)

end Sys2Proof.Machine
end

section
/-! PROOF. The sequencer refines the source's discovery state machine (43_discovery R230, R234): one lemma per source state says where
a step may lead from it. -/

namespace Sys2Proof.Machine

section
variable {s t : State}

/-! ### The source state of each group of control points (R234) -/

theorem State.stateOf_probing {c : Candidate} (hs : s.ctl.Probing) (hcand : s.candidate = some c) : s.stateOf = .probing c := by
  cases hc : s.ctl
  case qConf | qSdisc | qWrite | qDelay | qAvail => simp only [State.stateOf, hc, State.probingState, hcand]
  all_goals exact absurd hs (by rw [hc]; decide)

theorem State.stateOf_polling (hm : s.mode = .seq) (hs : s.ctl.Polling) : s.stateOf = .found s.cfg := by
  cases hc : s.ctl
  case qFdisc => simp only [State.stateOf, hc]
  case sDisc | sWrite | raDelay | raAvail | rbRead | rcDelay | rcAvail | rdRead | pDelay =>
    simp only [State.stateOf, hc, State.pollingState, hm]
  all_goals exact absurd hs (by rw [hc]; decide)

theorem State.stateOf_qOpen (hc : s.ctl = .qOpen) : s.stateOf = .idle := by simp only [State.stateOf, hc]

theorem State.stateOf_qExh (hc : s.ctl = .qExh) : s.stateOf = .exhausted := by simp only [State.stateOf, hc]

/-- Where the sequencer can be: the link being opened, a probe, exhausted, the polling loop, or stopped. -/
theorem State.Inv.sequencer_ctl (h : s.Inv) (hm : s.mode = .seq) :
    s.ctl = .qOpen ∨ s.ctl.Probing ∨ s.ctl = .qExh ∨ s.ctl.Polling ∨ s.ctl = .fatal := by
  obtain ⟨-, hsite⟩ := State.inv_iff.1 h
  cases hc : s.ctl
  case idle | lOpen | lConf | lDisc => simp [State.SiteInv, hc, hm] at hsite
  all_goals decide

/-! ### The moves from each source state -/

/-- A probe that begins at candidate 0. -/
theorem stateOf_probeBegin_zero (hsize : 0 < s.params.size) :
    ∃ c, candidate s.params 0 = some c ∧ (s.probeBegin 0).stateOf = .probing c := by
  obtain ⟨c, hc⟩ := exists_candidate hsize
  exact ⟨c, hc, State.stateOf_probing (s := s.probeBegin 0) (State.at_ctl .qConf) hc⟩

/-- R235, R236, R247. -/
theorem step_from_idle (hc : s.ctl = .qOpen) (hsize : 0 < s.params.size) (hreset : ∀ rest, s.inputs ≠ .reset :: rest)
    (h : step s = .next t) :
    t.stateOf = .idle ∨ t.ctl = .fatal ∨ ∃ c, candidate s.params 0 = some c ∧ t.stateOf = .probing c := by
  rcases step_busy_cases (by rw [hc]; decide) hreset h with ⟨-, ht⟩ | ⟨rest, hexh, -⟩ | ⟨a, x, rest, -, -, hx⟩
  · exact .inl (ht.stateOf.trans (State.stateOf_qOpen hc))
  · cases hc.symm.trans hexh
  · obtain ⟨r, -, rfl⟩ := resume_qOpen (s := Claims.served s rest x) hc hx
    cases r with
    | ok => exact .inr (.inr (stateOf_probeBegin_zero (s := (Claims.served s rest x).openLink) hsize))
    | err => exact .inr (.inl rfl)

/-- R237 to R241. -/
theorem step_from_probing {c : Candidate} (hp : s.params.Valid) (hci : s.ci.toNat < s.params.size) (hs : s.ctl.Probing)
    (hcand : s.candidate = some c) (hreset : ∀ rest, s.inputs ≠ .reset :: rest) (h : step s = .next t) :
    t.stateOf = .probing c ∨
    (∃ c', candidate s.params (s.ci.toNat + 1) = some c' ∧ t.stateOf = .probing c') ∨
    (s.ci.toNat + 1 = s.params.size ∧ t.stateOf = .exhausted) ∨
    t.stateOf = .found ⟨c.f, c.driver, c.address, BitVec.ofNat 16 s.ci.toNat, true⟩ := by
  rcases step_busy_cases hs.ne hreset h with ⟨-, ht⟩ | ⟨rest, hexh, -⟩ | ⟨a, x, rest, -, -, hx⟩
  · exact .inl (ht.stateOf.trans (State.stateOf_probing hs hcand))
  · exact absurd hexh hs.ne
  · have hparams : t.params = s.params := (resume_sameCommand hx).params
    have hmoves : (Claims.served s rest x).ProbeMoves t := resume_probeMoves hs hx
    cases hmoves with
    | stays hctl hti =>
      refine .inl (State.stateOf_probing hctl ?_)
      rw [State.candidate, hparams, hti]
      exact hcand
    | next hmore hctl hti =>
      obtain ⟨c', hc'⟩ := exists_candidate hmore
      refine .inr (.inl ⟨c', hc', State.stateOf_probing hctl ?_⟩)
      have hnext : (s.ci + 1).toNat = s.ci.toNat + 1 := by
        have hle := Params.size_le hp
        bv_omega
      rw [State.candidate, hparams, hti]
      exact (congrArg _ hnext).trans hc'
    | last hlast hctl => exact .inr (.inr (.inl ⟨Nat.le_antisymm hci hlast, State.stateOf_qExh hctl⟩))
    | found c' hc' hctl hcfg =>
      obtain rfl : c = c' := Option.some.inj (hcand.symm.trans hc')
      refine .inr (.inr (.inr ?_))
      rw [BitVec.ofNat_toNat, BitVec.setWidth_eq, State.stateOf, hctl, hcfg]
      rfl

/-- R242. -/
theorem step_from_exhausted (hc : s.ctl = .qExh) (hsize : 0 < s.params.size) (hreset : ∀ rest, s.inputs ≠ .reset :: rest)
    (h : step s = .next t) :
    t.stateOf = .exhausted ∨ ∃ c, candidate s.params 0 = some c ∧ t.stateOf = .probing c := by
  rcases step_busy_cases (by rw [hc]; decide) hreset h with ⟨-, ht⟩ | ⟨rest, -, rfl⟩ | ⟨a, x, rest, -, hr, -⟩
  · exact .inl (ht.stateOf.trans (State.stateOf_qExh hc))
  · exact .inr (stateOf_probeBegin_zero (s := State.emit { s with inputs := rest } .exhausted) hsize)
  · exact absurd hc (request_site hr).2.2

/-- R246, in the source's terms. -/
theorem step_from_found (hm : s.mode = .seq) (hs : s.ctl.Polling) (hreset : ∀ rest, s.inputs ≠ .reset :: rest)
    (h : step s = .next t) : t.stateOf = .found s.cfg := by
  obtain ⟨htm, hts, hcfg, -⟩ := pollingNeverLeaves s t hm hs hreset h
  rw [State.stateOf_polling htm hts, hcfg]

theorem step_from_fatal (hc : s.ctl = .fatal) (hreset : ∀ rest, s.inputs ≠ .reset :: rest) (h : step s = .next t) :
    t.ctl = .fatal := by
  rcases step_busy_cases (by rw [hc]; decide) hreset h with ⟨-, ht⟩ | ⟨rest, hexh, -⟩ | ⟨a, x, rest, -, hr, -⟩
  · exact ht.ctl.trans hc
  · cases hc.symm.trans hexh
  · exact absurd hc (request_site hr).2.1

end

/-- Settles O53: by the invariant the sequencer is in one of the source's states or at FATAL, and ci names a candidate. -/
theorem refinesSourceStateMachine : Obligations.RefinesSourceStateMachine := by
  intro s t hs hm hreset h
  obtain ⟨hd, -⟩ := State.inv_iff.1 hs
  have hsize : 0 < s.params.size := Params.size_pos hd.params
  rcases hs.sequencer_ctl hm with hc | hc | hc | hc | hc
  · exact .inl ⟨State.stateOf_qOpen hc, step_from_idle hc hsize hreset h⟩
  · obtain ⟨c, hcand⟩ := exists_candidate hd.ci
    exact .inr <| .inl ⟨s.ci.toNat, c, hcand, State.stateOf_probing hc hcand, step_from_probing hd.params hd.ci hc hcand hreset h⟩
  · exact .inr <| .inr <| .inl ⟨State.stateOf_qExh hc, step_from_exhausted hc hsize hreset h⟩
  · exact .inr <| .inr <| .inr <| .inl ⟨s.cfg, State.stateOf_polling hm hc, step_from_found hm hc hreset h⟩
  · exact .inr <| .inr <| .inr <| .inr ⟨hc, step_from_fatal hc hreset h⟩

end Sys2Proof.Machine
end

section
/-! SUPPORT. Runs of the search that find nothing (43_discovery R237 to R242, R248): a failing probe, a sweep of failing probes, and
what the search keeps over any number of steps. -/

namespace Sys2Proof.Machine

section
variable {s t u : State} {rest : List Event}

theorem run_add {m : Nat} (h : Host.Core.run core m s = .next t) (n : Nat) :
    Host.Core.run core (m + n) s = Host.Core.run core n t := by
  induction m generalizing s with
  | zero =>
    obtain rfl : s = t := Host.Outcome.next.inj h
    rw [Nat.zero_add]
  | succ m ih =>
    cases hstep : step s with
    | next v =>
      rw [run_succ hstep] at h
      rw [Nat.add_right_comm, run_succ hstep]
      exact ih h
    | fault f =>
      have hcore : core.step s = .fault f := hstep
      simp [Host.Core.run, hcore] at h
    | refused f =>
      have hcore : core.step s = .refused f := hstep
      simp [Host.Core.run, hcore] at h

/-- In `n` steps the search goes from `s` to `t`: it configures and reports what is listed, and leaves the command in charge, the result
and the Configuration register as they are. -/
structure State.Searches (n : Nat) (s t : State) (configured : List Transaction) (reported : List Report) : Prop where
  run : Host.Core.run core n s = .next t
  command : s.SameCommand t
  res : t.res = s.res
  cfg : t.cfg = s.cfg
  reports : t.reports = s.reports ++ reported
  log : ∃ log, t.transactions = s.transactions ++ log ∧ log.filter Transaction.isConfigure = configured

theorem State.Searches.none (s : State) : s.Searches 0 s [] [] :=
  ⟨rfl, ⟨rfl, rfl, rfl⟩, rfl, rfl, (List.append_nil _).symm, [], (List.append_nil _).symm, rfl⟩

theorem State.Searches.trans {m n : Nat} {configured configured' : List Transaction} {reported reported' : List Report}
    (h : State.Searches m s t configured reported) (h' : State.Searches n t u configured' reported') :
    State.Searches (m + n) s u (configured ++ configured') (reported ++ reported') := by
  obtain ⟨log, hlog, hconf⟩ := h.log
  obtain ⟨log', hlog', hconf'⟩ := h'.log
  refine ⟨(run_add h.run n).trans h'.run, ⟨h'.command.mode.trans h.command.mode, h'.command.cur.trans h.command.cur,
    h'.command.params.trans h.command.params⟩, h'.res.trans h.res, h'.cfg.trans h.cfg, ?_, log ++ log', ?_, ?_⟩
  · rw [h'.reports, h.reports, List.append_assoc]
  · rw [hlog', hlog, List.append_assoc]
  · rw [List.filter_append, hconf, hconf']

/-- From `s` to `t` the transaction `x` is served, and of what `Searches` looks at nothing else changes. -/
structure State.Serves (s : State) (x : Transaction) (t : State) : Prop where
  command : s.SameCommand t := by exact ⟨rfl, rfl, rfl⟩
  res : t.res = s.res := by rfl
  cfg : t.cfg = s.cfg := by rfl
  reports : t.reports = s.reports := by rfl
  transactions : t.transactions = s.transactions ++ [x] := by rfl

theorem State.Searches.step {x : Transaction} (h : step s = .next t) (hserves : s.Serves x t) :
    State.Searches 1 s t ([x].filter Transaction.isConfigure) [] :=
  ⟨run_succ h 0, hserves.command, hserves.res, hserves.cfg, hserves.reports.trans (List.append_nil _).symm, [x],
    hserves.transactions, rfl⟩

/-! ### Advancing (R240) -/

/-- Where the search stands after a probe of `s` has failed. -/
def State.AdvancesTo (s t : State) : Prop :=
  if s.ci.toNat + 1 < s.params.size then t.ctl = .qConf ∧ t.ci = s.ci + 1 else t.ctl = .qExh

theorem State.advance_advancesTo (hci : u.ci = s.ci) (hparams : u.params = s.params) : s.AdvancesTo u.advance := by
  unfold State.AdvancesTo State.advance
  rw [← hci, ← hparams]
  split
  · exact ⟨rfl, rfl⟩
  · rfl

@[simp] theorem State.advance_res (s : State) : s.advance.res = s.res := by unfold State.advance; split <;> rfl
@[simp] theorem State.advance_reports (s : State) : s.advance.reports = s.reports := by unfold State.advance; split <;> rfl

theorem State.Serves.advance {x : Transaction} (h : s.Serves x u) : s.Serves x u.advance where
  command := { mode := u.advance_sameCommand.mode.trans h.command.mode
               cur := u.advance_sameCommand.cur.trans h.command.cur
               params := u.advance_sameCommand.params.trans h.command.params }
  res := u.advance_res.trans h.res
  cfg := u.advance_cfg.trans h.cfg
  reports := u.advance_reports.trans h.reports
  transactions := u.advance_transactions.trans h.transactions

/-! ### A probe that fails (R237 to R239) -/

/-- In `n` steps the probe of `s` goes on to `t`, `rest` still in store. -/
structure State.Probes (n : Nat) (s t : State) (configured : List Transaction) (rest : List Event) : Prop
    extends State.Searches n s t configured [] where
  ci : t.ci = s.ci
  inputs : t.inputs = rest

/-- In `n` steps the probe of `s` fails, and the search advances to `t`, `rest` still in store. -/
structure State.ProbeFails (n : Nat) (s t : State) (configured : List Transaction) (rest : List Event) : Prop
    extends State.Searches n s t configured [] where
  advances : s.AdvancesTo t
  inputs : t.inputs = rest

theorem State.Probes.candidate {n : Nat} {configured : List Transaction} (h : State.Probes n s t configured rest) :
    t.candidate = s.candidate := by
  rw [State.candidate, h.command.params, h.ci]
  rfl

theorem State.Probes.trans {m n : Nat} {configured configured' : List Transaction} {rest' : List Event}
    (h : State.Probes m s t configured rest) (h' : State.Probes n t u configured' rest') :
    State.Probes (m + n) s u (configured ++ configured') rest' :=
  ⟨h.toSearches.trans h'.toSearches, h'.ci.trans h.ci, h'.inputs⟩

theorem State.Probes.fails {m n : Nat} {configured configured' : List Transaction} {rest' : List Event}
    (h : State.Probes m s t configured rest) (h' : State.ProbeFails n t u configured' rest') :
    State.ProbeFails (m + n) s u (configured ++ configured') rest' := by
  refine ⟨h.toSearches.trans h'.toSearches, ?_, h'.inputs⟩
  have hadv := h'.advances
  unfold State.AdvancesTo at hadv ⊢
  rwa [h.ci, h.command.params] at hadv

/-- A step that fails the probe. -/
theorem State.ProbeFails.step {x : Transaction} (h : step s = .next u.advance) (hserves : s.Serves x u)
    (hci : u.ci = s.ci := by rfl) (hinputs : u.inputs = rest := by rfl) : State.ProbeFails 1 s u.advance ([x].filter Transaction.isConfigure) rest :=
  ⟨.step h hserves.advance, State.advance_advancesTo hci hserves.command.params, u.advance_inputs.trans hinputs⟩

variable {c : Candidate}

/-- The transaction that configures a candidate. -/
def Candidate.configure (c : Candidate) : Transaction := .configure c.framing c.driver c.address

/-- Configured, and whatever the output buffer held discarded (R237, R238). -/
theorem probes_toWrite (hc : s.ctl = .qConf) (hcand : s.candidate = some c)
    (hi : s.inputs = .answer (.status .ok) :: (discardAnswers s.params ++ rest)) :
    ∃ t, State.Probes (1 + (discardAnswers s.params).length) s t [c.configure] rest ∧ t.ctl = .qWrite := by
  obtain ⟨t, ht, htc⟩ : ∃ t, State.Probes 1 s t [c.configure] (discardAnswers s.params ++ rest) ∧
      t.ctl = if s.params.discardBeforeSend then .qSdisc else .qWrite :=
    ⟨_, ⟨.step (x := c.configure) (step_qConf hc hi hcand) {}, rfl, rfl⟩, rfl⟩
  by_cases hd : s.params.discardBeforeSend = true
  · have hanswers : discardAnswers s.params = [.answer .done] := if_pos hd
    rw [hanswers] at ht ⊢
    rw [if_pos hd] at htc
    exact ⟨_, ht.trans ⟨.step (x := .discardBuffers) (step_qSdisc htc ht.inputs) {}, rfl, rfl⟩, rfl⟩
  · have hanswers : discardAnswers s.params = [] := if_neg hd
    rw [hanswers] at ht ⊢
    rw [if_neg hd] at htc
    exact ⟨t, ht, htc⟩

/-- The request written (R238). -/
theorem probes_toDelay (hc : s.ctl = .qWrite) (hi : s.inputs = .answer (.status .ok) :: rest) :
    ∃ t, State.Probes 1 s t [] rest ∧ t.ctl = .qDelay ∧ t.k = 0 :=
  ⟨_, ⟨.step (x := .write s.enc.txbuf) (step_qWrite hc hi) {}, rfl, rfl⟩, rfl, rfl⟩

theorem probes_toAvail (hc : s.ctl = .qDelay) (hi : s.inputs = .answer .done :: rest) :
    ∃ t, State.Probes 1 s t [] rest ∧ t.ctl = .qAvail ∧ t.k = s.k + 1 :=
  ⟨_, ⟨.step (x := .delay s.params.probeInterval) (step_qDelay hc hi) {}, rfl, rfl⟩, rfl, rfl⟩

/-- A count below the threshold, the budget not used up (R239). -/
theorem probes_again {n : Nat} (hc : s.ctl = .qAvail) (hcand : s.candidate = some c) (hn : n < s.params.probeMinBytes)
    (hk : s.k ≠ s.params.probeIters) (hi : s.inputs = .answer (.count n) :: rest) :
    ∃ t, State.Probes 1 s t [] rest ∧ t.ctl = .qDelay ∧ t.k = s.k := by
  have hstep := step_qAvail hc hi hcand
  have hwait : (Claims.served s rest .bytesAvailable).probeAvailed c n =
      ((Claims.served s rest .bytesAvailable).setAvail n).goto .qDelay :=
    (if_neg (Nat.not_le.2 hn)).trans (if_neg hk)
  rw [hwait] at hstep
  exact ⟨_, ⟨.step (x := .bytesAvailable) hstep {}, rfl, rfl⟩, rfl, rfl⟩

/-- A count below the threshold, the budget used up (R239). -/
theorem probeFails_atBudget {n : Nat} (hc : s.ctl = .qAvail) (hcand : s.candidate = some c) (hn : n < s.params.probeMinBytes)
    (hk : s.k = s.params.probeIters) (hi : s.inputs = .answer (.count n) :: rest) :
    ∃ t, State.ProbeFails 1 s t [] rest := by
  have hstep := step_qAvail hc hi hcand
  have hadvance : (Claims.served s rest .bytesAvailable).probeAvailed c n =
      ((Claims.served s rest .bytesAvailable).setAvail n).advance :=
    (if_neg (Nat.not_le.2 hn)).trans (if_pos hk)
  rw [hadvance] at hstep
  exact ⟨_, .step (x := .bytesAvailable) hstep {}⟩

/-- Counts too small, up to the budget (R239). -/
theorem probeFails_tooFew {counts : List Nat} (hc : s.ctl = .qDelay) (hcand : s.candidate = some c) (hne : counts ≠ [])
    (hk : s.k + counts.length = s.params.probeIters) (hfew : ∀ n ∈ counts, n < s.params.probeMinBytes)
    (hi : s.inputs = pollAnswers counts ++ rest) :
    ∃ t, State.ProbeFails (pollAnswers counts).length s t [] rest := by
  induction counts generalizing s with
  | nil => exact absurd rfl hne
  | cons n counts ih =>
    obtain ⟨t, ht, htc, htk⟩ := probes_toAvail hc hi
    have htcand := ht.candidate.trans hcand
    rw [List.length_cons] at hk
    have htn : n < t.params.probeMinBytes := by rw [ht.command.params]; exact hfew n List.mem_cons_self
    have hlen : (pollAnswers (n :: counts)).length = 1 + (1 + (pollAnswers counts).length) := by simp [pollAnswers]; omega
    rw [hlen]
    rcases eq_or_ne counts [] with rfl | hmore
    · obtain ⟨u, hu⟩ := probeFails_atBudget htc htcand htn (by rw [htk, ht.command.params]; exact hk) ht.inputs
      exact ⟨u, ht.fails hu⟩
    · have hpos := List.length_pos_iff.2 hmore
      obtain ⟨u, hu, huc, huk⟩ := probes_again htc htcand htn (by rw [htk, ht.command.params]; omega) ht.inputs
      have htu := ht.trans hu
      obtain ⟨v, hv⟩ := ih huc (htu.candidate.trans hcand) hmore (by rw [huk, htk, htu.command.params]; omega)
        (fun m hm => by rw [htu.command.params]; exact hfew m (List.mem_cons_of_mem _ hm)) hu.inputs
      exact ⟨v, ht.fails (hu.fails hv)⟩

/-- A probe that fails configures its candidate, and then the search advances, whichever way it fails (R248). -/
theorem FailedProbe.probeFails {q : FailedProbe} (hp : s.params.Valid) (hc : s.ctl = .qConf) (hcand : s.candidate = some c)
    (hq : q.Fails s.params) (hi : s.inputs = q.events s.params ++ rest) :
    ∃ t, State.ProbeFails (q.events s.params).length s t [c.configure] rest := by
  cases q with
  | configureErr => exact ⟨_, .step (x := c.configure) (step_qConf (r := .err) hc hi hcand) {}⟩
  | writeErr =>
    obtain ⟨t, ht, htc⟩ := probes_toWrite (rest := .answer (.status .err) :: rest) hc hcand
      (by simpa [FailedProbe.events] using hi)
    have hlen : (FailedProbe.writeErr.events s.params).length = 1 + (discardAnswers s.params).length + 1 := by
      simp [FailedProbe.events]; omega
    rw [hlen]
    exact ⟨_, ht.fails (.step (x := .write t.enc.txbuf) (step_qWrite (r := .err) htc ht.inputs) {})⟩
  | tooFew counts =>
    obtain ⟨hlength, hfew⟩ := hq
    obtain ⟨-, -, -, ⟨-, -, hiters⟩, -⟩ := hp
    obtain ⟨t, ht, htc⟩ := probes_toWrite (rest := .answer (.status .ok) :: (pollAnswers counts ++ rest)) hc hcand
      (by simpa [FailedProbe.events] using hi)
    obtain ⟨u, hu, huc, huk⟩ := probes_toDelay htc ht.inputs
    have hparams := (ht.trans hu).command.params
    obtain ⟨v, hv⟩ := probeFails_tooFew huc ((ht.trans hu).candidate.trans hcand)
      (List.ne_nil_of_length_pos (hlength ▸ hiters)) (by rw [huk, hparams, Nat.zero_add, hlength]) (by rwa [hparams]) hu.inputs
    have hlen : ((FailedProbe.tooFew counts).events s.params).length =
        1 + (discardAnswers s.params).length + (1 + (pollAnswers counts).length) := by
      simp [FailedProbe.events]; omega
    rw [hlen]
    exact ⟨v, ht.fails (hu.fails hv)⟩

end

end Sys2Proof.Machine
end

section
/-! PROOF. The search wraps around (43_discovery R248): a sweep of failing probes, then the internal step at Q_EXH, `r` times over. -/

namespace Sys2Proof.Machine

section
variable {s : State} {rest : List Event} {probes : List FailedProbe} {p : Params}

/-- The Configure transactions of the probes of candidates `i`, …, `i + n − 1`. -/
def sweepFrom (p : Params) (i n : Nat) : List Transaction :=
  (List.range' i n).filterMap fun j => (candidate p j).map Candidate.configure

theorem sweep_eq_sweepFrom (p : Params) : sweep p = sweepFrom p 0 p.size := by
  rw [sweep, List.range_eq_range']
  rfl

theorem sweepFrom_succ {i : Nat} {c : Candidate} (hc : candidate p i = some c) (n : Nat) :
    sweepFrom p i (n + 1) = c.configure :: sweepFrom p (i + 1) n := by
  rw [sweepFrom, List.range'_succ, List.filterMap_cons, hc]
  rfl

/-- One step per answer. -/
def answerSteps (p : Params) (probes : List FailedProbe) : Nat := (probes.map fun q => (q.events p).length).sum

/-- Failing probes of all candidates from `ci` on exhaust them (R240). -/
theorem searches_sweep (hparams : s.params = p) (hp : p.Valid) (hc : s.ctl = .qConf) (hne : probes ≠ [])
    (hlen : s.ci.toNat + probes.length = p.size) (hfails : ∀ q ∈ probes, q.Fails p)
    (hi : s.inputs = (probes.map fun q => q.events p).flatten ++ rest) :
    ∃ t, State.Searches (answerSteps p probes) s t (sweepFrom p s.ci.toNat probes.length) [] ∧ t.ctl = .qExh ∧ t.inputs = rest := by
  induction probes generalizing s with
  | nil => exact absurd rfl hne
  | cons q probes ih =>
    subst hparams
    rw [List.length_cons] at hlen
    obtain ⟨c, hcand⟩ := exists_candidate (p := s.params) (i := s.ci.toNat) (by omega)
    rw [List.map_cons, List.flatten_cons, List.append_assoc] at hi
    obtain ⟨t, ht⟩ := FailedProbe.probeFails hp hc hcand (hfails q List.mem_cons_self) hi
    have hadv := ht.advances
    unfold State.AdvancesTo at hadv
    rw [List.length_cons, sweepFrom_succ hcand]
    rcases eq_or_ne probes [] with rfl | hmore
    · rw [List.length_nil, Nat.zero_add] at hlen
      rw [if_neg (Nat.not_lt.2 hlen.ge)] at hadv
      exact ⟨t, ht.toSearches, hadv, ht.inputs⟩
    · have hpos := List.length_pos_iff.2 hmore
      rw [if_pos (by omega)] at hadv
      obtain ⟨htc, hti⟩ := hadv
      have hnext : t.ci.toNat = s.ci.toNat + 1 := by
        have hle := Params.size_le hp
        rw [hti]
        bv_omega
      obtain ⟨u, hu, huc, hui⟩ := ih ht.command.params htc hmore (by omega)
        (fun q' hq' => hfails q' (List.mem_cons_of_mem _ hq')) ht.inputs
      rw [hnext] at hu
      exact ⟨u, ht.toSearches.trans hu, huc, hui⟩

/-- Q_EXH, with no word and no reset next (R242). -/
theorem searches_exhaust (hc : s.ctl = .qExh) (hi : ∀ e, s.inputs.head? = some e → ∃ a, e = .answer a) :
    State.Searches 1 s s.exhaust [] [.exhausted] :=
  ⟨run_succ (step_qExh hc hi) 0, ⟨rfl, rfl, rfl⟩, rfl, rfl, rfl, [], (List.append_nil _).symm, rfl⟩

/-- What is next in store before a probe is an answer, if anything. -/
theorem head?_events (p : Params) (probes : List FailedProbe) (hrest : ∀ e, rest.head? = some e → ∃ a, e = .answer a) :
    ∀ e, ((probes.map fun q => q.events p).flatten ++ rest).head? = some e → ∃ a, e = .answer a := by
  cases probes with
  | nil => exact hrest
  | cons q probes => cases q <;> exact fun e he => ⟨_, (Option.some.inj he).symm⟩

/-- `r` sweeps, each ended by the internal step. -/
theorem searches_sweeps (r : Nat) (hparams : s.params = p) (hp : p.Valid) (hc : s.ctl = .qConf) (hci : s.ci = 0)
    (hlen : probes.length = r * p.size) (hfails : ∀ q ∈ probes, q.Fails p)
    (hi : s.inputs = (probes.map fun q => q.events p).flatten ++ rest)
    (hrest : ∀ e, rest.head? = some e → ∃ a, e = .answer a) :
    ∃ t, State.Searches (answerSteps p probes + r) s t (List.replicate r (sweep p)).flatten (List.replicate r .exhausted) ∧
      t.ctl = .qConf ∧ t.ci = 0 ∧ t.inputs = rest := by
  induction r generalizing s probes with
  | zero =>
    rw [Nat.zero_mul, List.length_eq_zero_iff] at hlen
    subst hlen
    exact ⟨s, .none s, hc, hci, hi⟩
  | succ r ih =>
    have hsize := Params.size_pos hp
    rw [Nat.succ_mul] at hlen
    obtain ⟨first, more, rfl, hfirst⟩ : ∃ first more, probes = first ++ more ∧ first.length = p.size :=
      ⟨_, _, (List.take_append_drop p.size probes).symm, List.length_take_of_le (by omega)⟩
    rw [List.length_append] at hlen
    rw [List.map_append, List.flatten_append, List.append_assoc] at hi
    have hzero : s.ci.toNat = 0 := by rw [hci]; rfl
    obtain ⟨t, ht, htc, hti⟩ := searches_sweep hparams hp hc (List.ne_nil_of_length_pos (hfirst ▸ hsize))
      (by rw [hzero, Nat.zero_add, hfirst]) (fun q hq => hfails q (List.mem_append_left _ hq)) hi
    have hexh := searches_exhaust htc (hti ▸ head?_events p more hrest)
    obtain ⟨u, hu, huc, hui, huin⟩ := ih (s := t.exhaust) (probes := more) (ht.command.params.trans hparams) rfl rfl (by omega)
      (fun q hq => hfails q (List.mem_append_right _ hq)) hti
    rw [hzero, hfirst, ← sweep_eq_sweepFrom] at ht
    have hsteps : answerSteps p (first ++ more) + (r + 1) = answerSteps p first + 1 + (answerSteps p more + r) := by
      simp only [answerSteps, List.map_append, List.sum_append]
      omega
    rw [hsteps]
    refine ⟨u, ?_, huc, hui, huin⟩
    have hall := (ht.trans hexh).trans hu
    rwa [List.append_nil] at hall

end

/-- Settles O40: `r` sweeps keep what one step of the search keeps. -/
theorem searchWrapsAround : Obligations.SearchWrapsAround := by
  intro s rest r probes hp hc hci hlen hfails hi hrest
  obtain ⟨t, ht, htc, hti, htin⟩ := searches_sweeps r rfl hp hc hci hlen hfails hi hrest
  exact ⟨t, ht.run, htc, hti, htin, ht.command.mode, ht.command.cur, ht.res, ht.cfg, ht.reports, ht.log⟩

end Sys2Proof.Machine
end

section
/-! PROOF. Reset (70_reset R300). -/

namespace Sys2Proof.Machine

/-- What a reset leaves: the reset values for the same parameters, with what is in store and the port's history kept. -/
theorem State.resetEvent_eq (s : State) :
    s.resetEvent = { State.resetWith s.params with inputs := s.inputs, transactions := s.transactions } := rfl

/-- Settles O2: the step takes the reset event from the store and runs it, whatever the rest of the state is. -/
theorem resetEventRestoresTable : Obligations.ResetEventRestoresTable := by
  intro s rest hreset
  rw [step_reset hreset, State.resetEvent_eq]

end Sys2Proof.Machine
end
